-- ==== Sys2Proof/Word.lean ====
section
/-! DEFINITION. The word types of the D440 link and counters: what the manual treats as bits. -/

namespace Sys2Proof

/-- One byte of the link (11.1). -/
abbrev Byte := BitVec 8

/-- A condition set as the link carries it: four bytes, bit `n` stands for condition code `n` (11.1, R192). -/
abbrev CondSet := BitVec 32

/-- One of the five 48-bit attribution counters of the water account (1.2). -/
abbrev Pulses := BitVec 48

end Sys2Proof
end

