-- ==== Sys2Proof/Syntax.lean ====
section
/-! DEFINITION. The commands of the D440: one constructor of `Instr` for each row of spec/opcode_table.json, with the
operands each row needs. The part is a block, not a processor: a command is a host request, a byte or an event of the link,
a sensor event, or the running-out of one of the part's own time counts. -/

namespace Sys2Proof.Machine

/-- The two softener columns; 0 and 1 on the link (R36). -/
inductive Column where
  | a
  | b
deriving DecidableEq, Repr

/-- The four supply entries, in the order of their link codes 0 to 3 (R73, R74). -/
inductive Entry where
  | detergent
  | rinseAid
  | additive
  | salt
deriving DecidableEq, Repr

/-- The three dosed agents, in the order of their link codes 0 to 2 (R123). -/
inductive Agent where
  | detergent
  | rinseAid
  | additive
deriving DecidableEq, Repr

/-- The spray zones, mask values 1, 2 and 4 (R101). -/
inductive Zone where
  | lower
  | upper
  | top
deriving DecidableEq, Repr

/-- The reading of the diverter's coded cam switch (7.3). -/
inductive Cam where
  | between
  | at (z : Zone)
deriving DecidableEq, Repr

/-- The two spray arms that carry a rotation sensor (7.4). -/
inductive Arm where
  | lower
  | upper
deriving DecidableEq, Repr

/-- The two channels of the hinge encoder (8.1). -/
inductive Channel where
  | a
  | b
deriving DecidableEq, Repr

/-- The two end switches of the opener rod (8.2). -/
inductive EndSwitch where
  | retracted
  | extended
deriving DecidableEq, Repr

/-- The ten testable actuators, in the order of their codes 0 to 9 (R187). -/
inductive Actuator where
  | inlet
  | drainPump
  | circPump
  | heater
  | detergentPump
  | rinsePump
  | additivePump
  | diverter
  | fan
  | opener
deriving DecidableEq, Repr

/-- The fields of a phase record as its 23 bytes carry them, before R101 is applied (R201). -/
structure RawPhase where
  id : Nat
  kind : Nat
  fill : Nat
  temp : Nat
  hold : Nat
  heatLimit : Nat
  mask : Nat
  period : Nat
  speed : Nat
  detergent : Nat
  additive : Nat
  rinse : Nat
  flags : Nat
  presence : Nat
  dryOverride : Nat
deriving DecidableEq, Repr

/-- What the part's inputs read at the first scan after a reset (R18, R64, R128, R147, R149, R157, R160, R174).
The levels come from outside the part, so the commands that bring a reset carry them. -/
structure Inputs where
  overfillClosed : Bool
  leakWet : Bool
  waterPresent : Bool
  detergentCapOpen : Bool
  rinseCapOpen : Bool
  additiveCapOpen : Bool
  saltCapOpen : Bool
  detergentLow : Bool
  rinseLow : Bool
  additiveLow : Bool
  saltLow : Bool
  waterTemp : Int
  cam : Cam
  encoderA : Bool
  encoderB : Bool
  doorClosed : Bool
  latchEngaged : Bool
  endRetracted : Bool
  endExtended : Bool
  cabinetTemp : Int
  cabinetHumidity : Int
deriving DecidableEq, Repr

end Sys2Proof.Machine

namespace Sys2Proof

open Sys2Proof.Machine

/-- The commands of the D440. A host request carries its fields in the order of the message catalogue (11.5), each as the
number its bytes spell. An event of a switch or a sensor carries the reading that settled. The running-out of a time count
carries nothing. -/
inductive Instr where
  -- host requests: settings
  | setWater (k hRaw hT vRef limitCode : Nat)
  | setColumn (column nominal remaining hold : Nat)
  | setRegen (brine slow fast window automatic : Nat)
  | setSupply (entry capacity estimate lowMark stroke : Nat)
  | loadCurve (points : List (Nat × Nat))
  | loadSoil (thresholds factors : List Nat)
  | setPolicy (traps : CondSet)
  | setDry (openDelay openTemp dryTime humidity fan : Nat)
  -- host requests: the program
  | queuePhase (raw : RawPhase)
  | cancelPhase (id : Nat)
  | start
  | pause
  | resume
  | abort
  | editContext (operation value : Nat)
  | clearConditions (causes flags : CondSet)
  | regenNow (column : Nat)
  | opener (position : Nat)
  | enterService
  | leaveService
  | test (actuator amount : Nat)
  | leaveSafe
  | reset
  -- host requests: queries
  | getStatus
  | getPhases
  | getContext
  | getColumns
  | getSupply
  | getFills (index : Nat)
  | getDoses
  | getConditions
  | getDoor
  | getAttention
  | ackAttention (source : Nat)
  -- the link
  | uartByteReceived (byte : Byte)
  | interByteTimeout
  | replySent (inputs : Inputs)
  | supervisionTimerExpiry
  | attentionScan
  | powerOnReset (inputs : Inputs)
  -- water
  | flowPulse (comparatorA comparatorB : Bool)
  | fillTimeLimitExpiry
  | drainEmptyCountExpiry
  | drainLimitExpiry
  | waterPresentSwitchChange (closed : Bool)
  | overfillSwitchChange (closed : Bool)
  | leakFloatChange (wet : Bool)
  -- regeneration
  | slowRinseEnd
  | regenStageLimitExpiry
  -- reservoirs
  | capOpen (entry : Entry)
  | capClose (entry : Entry)
  | lowSwitchLow (entry : Entry)
  | lowSwitchNotLow (entry : Entry)
  -- dosing
  | strokeStart
  | strokeDriveOff
  | strokeSensorPulse (agent : Agent)
  | senseWindowClose
  -- wash and heat
  | holdCountdownEnd
  | temperatureSample (reading : Int)
  | zeroCrossing
  | dryCountExpiry
  | heatLimitExpiry
  | camArrival (reading : Cam)
  | diverterMoveTimeout
  | zonePeriodEnd
  | armPulse (arm : Arm)
  | armCheckGraceEnd
  | armGapExpiry
  | turbidityReading (count : Nat)
  -- door and opener
  | hingeEncoderEdge (channel : Channel) (rising : Bool)
  | doorClosedSwitchChange (closed : Bool)
  | latchSwitchChange (engaged : Bool)
  | releasePulseEnd
  | releaseTimeout
  | endSwitchChange (switch : EndSwitch) (active : Bool)
  | openerDriveTimeout
  -- drying
  | cabinetSample (temp humidity : Int)
  | openDelayExpiry
  | coolingLimitExpiry
  | dryTimeReached
  | minDryTimeReached
  | dryCommandRetry
  -- service tests
  | testDurationExpiry (actuator : Actuator)
  | waterAbsentTimeout
deriving DecidableEq, Repr

end Sys2Proof
end

