-- ==== Sys2Proof/Decode.lean ====
section
/-! DEFINITION. Decoding: the table's words (the table gives no row any bits), the frame check of the link (11.1, R191), and the
message catalogue (11.5): a valid frame's kind and payload read as a request, and the encoder of the same layouts. -/

namespace Sys2Proof

open Sys2Proof.Machine

/-- The command a table word spells. spec/opcode_table.json gives no row a pattern of bits, so no word spells any. -/
def decodeTableWord (_nbits _w : Nat) : Option Instr := none

/-! ## The CRC-8 (11.1) -/

/-- One bit of the CRC-8: polynomial 07h, most significant bit first. -/
def crcBit (r : Byte) : Byte := if r.msb then (r <<< 1) ^^^ 0x07 else r <<< 1

/-- The CRC-8 register after one more byte. -/
def crcByte (r b : Byte) : Byte :=
  crcBit (crcBit (crcBit (crcBit (crcBit (crcBit (crcBit (crcBit (r ^^^ b))))))))

/-- The CRC-8 of a list of bytes, starting at 00h, without a final inversion. -/
def crc8 (bytes : List Byte) : Byte := bytes.foldl crcByte 0

/-- A frame's bytes: start, length, kind, payload, CRC (11.1). -/
def frameBytes (kind : Byte) (payload : List Byte) : List Byte :=
  let body := BitVec.ofNat 8 (payload.length + 1) :: kind :: payload
  0xA5 :: (body ++ [crc8 body])

/-! ## Fields -/

/-- The number that bytes spell, most significant first (11.1). -/
def beNat (bytes : List Byte) : Nat := bytes.foldl (fun acc b => acc * 256 + b.toNat) 0

/-- The `n` bytes of a number, most significant first. -/
def beBytes : Nat → Nat → List Byte
  | 0, _ => []
  | n + 1, v => BitVec.ofNat 8 (v / 256 ^ n) :: beBytes n v

/-- The fields of a payload, given their widths in bytes. -/
def splitFields : List Nat → List Byte → List Nat
  | [], _ => []
  | w :: ws, bytes => beNat (bytes.take w) :: splitFields ws (bytes.drop w)

/-- The payload of fields, given their widths in bytes. -/
def joinFields : List Nat → List Nat → List Byte
  | w :: ws, v :: vs => beBytes w v ++ joinFields ws vs
  | _, _ => []

/-! ## The message catalogue (11.5) -/

/-- The widths of the fields of a request kind, in order; none for a kind outside the catalogue. -/
def fieldWidths : Nat → Option (List Nat)
  | 0x10 => some [2, 2, 2, 2, 1]
  | 0x11 => some [1, 4, 4, 1]
  | 0x12 => some [2, 2, 2, 1, 1]
  | 0x13 => some [1, 2, 2, 2, 1]
  | 0x14 => some [2, 2, 2, 2, 2, 2, 2, 2, 2, 2, 2, 2]
  | 0x15 => some [2, 2, 2, 2, 2, 2, 2]
  | 0x16 => some [4]
  | 0x17 => some [2, 2, 2, 1, 1]
  | 0x20 => some [1, 1, 2, 2, 2, 2, 1, 1, 1, 2, 2, 2, 1, 1, 2]
  | 0x21 => some [1]
  | 0x22 => some []
  | 0x23 => some []
  | 0x24 => some []
  | 0x25 => some []
  | 0x26 => some [1, 2]
  | 0x27 => some [4, 4]
  | 0x28 => some [1]
  | 0x30 => some [1]
  | 0x38 => some []
  | 0x39 => some []
  | 0x3A => some [1, 2]
  | 0x3B => some []
  | 0x3F => some []
  | 0x40 => some []
  | 0x41 => some []
  | 0x42 => some []
  | 0x43 => some []
  | 0x44 => some []
  | 0x45 => some [1]
  | 0x46 => some []
  | 0x47 => some []
  | 0x48 => some []
  | 0x49 => some []
  | 0x4A => some [1]
  | _ => none

/-- The request of a kind and its fields. -/
def buildRequest : Nat → List Nat → Option Instr
  | 0x10, [k, hRaw, hT, vRef, limit] => some (.setWater k hRaw hT vRef limit)
  | 0x11, [col, nominal, remaining, hold] => some (.setColumn col nominal remaining hold)
  | 0x12, [brine, slow, fast, window, auto] => some (.setRegen brine slow fast window auto)
  | 0x13, [e, capacity, estimate, low, stroke] => some (.setSupply e capacity estimate low stroke)
  | 0x14, [x0, y0, x1, y1, x2, y2, x3, y3, x4, y4, x5, y5] =>
    some (.loadCurve [(x0, y0), (x1, y1), (x2, y2), (x3, y3), (x4, y4), (x5, y5)])
  | 0x15, [t1, t2, t3, f0, f1, f2, f3] => some (.loadSoil [t1, t2, t3] [f0, f1, f2, f3])
  | 0x16, [traps] => some (.setPolicy (BitVec.ofNat 32 traps))
  | 0x17, [delay, temp, time, hum, fan] => some (.setDry delay temp time hum fan)
  | 0x20, [id, kind, fill, temp, hold, heat, mask, period, speed, det, add, rinse, flags, presence, dry] =>
    some (.queuePhase ⟨id, kind, fill, temp, hold, heat, mask, period, speed, det, add, rinse, flags, presence, dry⟩)
  | 0x21, [id] => some (.cancelPhase id)
  | 0x22, [] => some .start
  | 0x23, [] => some .pause
  | 0x24, [] => some .resume
  | 0x25, [] => some .abort
  | 0x26, [op, value] => some (.editContext op value)
  | 0x27, [causes, flags] => some (.clearConditions (BitVec.ofNat 32 causes) (BitVec.ofNat 32 flags))
  | 0x28, [col] => some (.regenNow col)
  | 0x30, [pos] => some (.opener pos)
  | 0x38, [] => some .enterService
  | 0x39, [] => some .leaveService
  | 0x3A, [act, amount] => some (.test act amount)
  | 0x3B, [] => some .leaveSafe
  | 0x3F, [] => some .reset
  | 0x40, [] => some .getStatus
  | 0x41, [] => some .getPhases
  | 0x42, [] => some .getContext
  | 0x43, [] => some .getColumns
  | 0x44, [] => some .getSupply
  | 0x45, [index] => some (.getFills index)
  | 0x46, [] => some .getDoses
  | 0x47, [] => some .getConditions
  | 0x48, [] => some .getDoor
  | 0x49, [] => some .getAttention
  | 0x4A, [src] => some (.ackAttention src)
  | _, _ => none

/-- What R192's first two tests make of a kind and a payload. -/
inductive Decoded where
  /-- Test 1 fails: the kind is not in the catalogue. -/
  | unknown
  /-- Test 2 fails: the payload's length is not the catalogue's. -/
  | badLength
  /-- The request goes to its owner. -/
  | request (i : Instr)
deriving DecidableEq, Repr

/-- R192's tests 1 and 2 of a valid frame, and the request it carries. -/
def decodeRequest (kind : Byte) (payload : List Byte) : Decoded :=
  match fieldWidths kind.toNat with
  | none => .unknown
  | some ws =>
    if payload.length ≠ ws.sum then .badLength
    else
      match buildRequest kind.toNat (splitFields ws payload) with
      | some i => .request i
      | none => .badLength

/-! ## The encoder -/

/-- A request's kind and fields (11.5); none for a command that is no request, or a curve or soil table of another size. -/
def requestFields : Instr → Option (Nat × List Nat)
  | .setWater k hRaw hT vRef limit => some (0x10, [k, hRaw, hT, vRef, limit])
  | .setColumn col nominal remaining hold => some (0x11, [col, nominal, remaining, hold])
  | .setRegen brine slow fast window auto => some (0x12, [brine, slow, fast, window, auto])
  | .setSupply e capacity estimate low stroke => some (0x13, [e, capacity, estimate, low, stroke])
  | .loadCurve [(x0, y0), (x1, y1), (x2, y2), (x3, y3), (x4, y4), (x5, y5)] =>
    some (0x14, [x0, y0, x1, y1, x2, y2, x3, y3, x4, y4, x5, y5])
  | .loadSoil [t1, t2, t3] [f0, f1, f2, f3] => some (0x15, [t1, t2, t3, f0, f1, f2, f3])
  | .setPolicy traps => some (0x16, [traps.toNat])
  | .setDry delay temp time hum fan => some (0x17, [delay, temp, time, hum, fan])
  | .queuePhase r =>
    some (0x20, [r.id, r.kind, r.fill, r.temp, r.hold, r.heatLimit, r.mask, r.period, r.speed, r.detergent, r.additive,
      r.rinse, r.flags, r.presence, r.dryOverride])
  | .cancelPhase id => some (0x21, [id])
  | .start => some (0x22, [])
  | .pause => some (0x23, [])
  | .resume => some (0x24, [])
  | .abort => some (0x25, [])
  | .editContext op value => some (0x26, [op, value])
  | .clearConditions causes flags => some (0x27, [causes.toNat, flags.toNat])
  | .regenNow col => some (0x28, [col])
  | .opener pos => some (0x30, [pos])
  | .enterService => some (0x38, [])
  | .leaveService => some (0x39, [])
  | .test act amount => some (0x3A, [act, amount])
  | .leaveSafe => some (0x3B, [])
  | .reset => some (0x3F, [])
  | .getStatus => some (0x40, [])
  | .getPhases => some (0x41, [])
  | .getContext => some (0x42, [])
  | .getColumns => some (0x43, [])
  | .getSupply => some (0x44, [])
  | .getFills index => some (0x45, [index])
  | .getDoses => some (0x46, [])
  | .getConditions => some (0x47, [])
  | .getDoor => some (0x48, [])
  | .getAttention => some (0x49, [])
  | .ackAttention src => some (0x4A, [src])
  | _ => none

/-- A request's kind byte and payload (11.5). -/
def encodeRequest (i : Instr) : Option (Byte × List Byte) :=
  match requestFields i with
  | none => none
  | some (kind, fields) =>
    match fieldWidths kind with
    | none => none
    | some ws => some (BitVec.ofNat 8 kind, joinFields ws fields)

end Sys2Proof
end

