-- ==== Sys2Proof/Machine/Types.lean ====
section
/-! DEFINITION. The names and records of the ten blocks: modes, states, outcomes, and the records each chapter describes.
All of it is plain data. Times are held in milliseconds (log 2). -/

namespace Sys2Proof.Machine

/-! ## Condition Unit (chapter 10) -/

/-- The operating mode (R182). -/
inductive Mode where
  | standby
  | run
  | service
  | safe
deriving DecidableEq, Repr

/-- The 21 conditions, in the order of their codes (10.1). -/
inductive Condition where
  | doorOpened
  | fillSlow
  | noWater
  | hardFill
  | heatSlow
  | armStalled
  | diverterFault
  | doseShort
  | dosePumpFault
  | drainSlow
  | openerFault
  | regenFault
  | earlyBreakthrough
  | saltEmpty
  | overfill
  | leak
  | inletLeak
  | heaterDry
  | overtemp
  | sensorFault
  | linkLost
deriving DecidableEq, Repr

/-- The four condition classes (10.1). -/
inductive CondClass where
  | note
  | trappable
  | holdAlways
  | safeAlways
deriving DecidableEq, Repr

/-- The answer a TRAPPABLE condition's raising block gets (R176, R177); `none` for the other classes. -/
inductive CondAnswer where
  | none
  | trap
  | default
  | held
deriving DecidableEq, Repr

/-- The outcomes of a service test (R188). -/
inductive TestOutcome where
  | completed
  | lost
  | left
  | safe
deriving DecidableEq, Repr

/-! ## Water Path Unit (chapter 1) -/

/-- The claimants of the inlet (1.1). -/
inductive Claimant where
  | fill
  | regen
  | test
deriving DecidableEq, Repr

/-- What a FILL claim carries (1.1). -/
structure FillClaim where
  phaseId : Nat
  target : Nat
deriving DecidableEq, Repr

/-- The outcomes of a fill record (1.3). -/
inductive FillOutcome where
  | complete
  | shortAccepted
  | abandoned
deriving DecidableEq, Repr

/-- The three fields a fill record gets when it closes (R10). -/
structure FillClose where
  delivered : Nat
  hardness : Nat
  outcome : FillOutcome
deriving DecidableEq, Repr

/-- A fill record (1.3). `closed` is absent while it is open. -/
structure FillRecord where
  phaseId : Nat
  target : Nat
  targetPulses : Nat
  pulses : Nat
  bypass : Nat
  colA : Nat
  colB : Nat
  hRaw : Nat
  hT : Nat
  k : Nat
  vRef : Nat
  limitCode : Nat
  start : Nat
  closed : Option FillClose
deriving DecidableEq, Repr

/-- The two counts of a drain (R16), in ms. -/
structure Drain where
  limitMs : Nat
  emptyMs : Nat
deriving DecidableEq, Repr

/-- The water settings (R20). -/
structure WaterSettings where
  k : Nat
  hRaw : Nat
  hT : Nat
  vRef : Nat
  limitCode : Nat
deriving DecidableEq, Repr

/-! ## Softener Unit (chapters 2 and 3) -/

/-- The states of a column (2.1). -/
inductive ColState where
  | fresh
  | inService
  | exhausted
  | regenerating
  | held
deriving DecidableEq, Repr

/-- Why a column is HELD (2.1). -/
inductive HoldReason where
  | host
  | regenFault
deriving DecidableEq, Repr

/-- A column record (2.1). -/
structure ColumnRecord where
  state : ColState
  remaining : Nat
  nominal : Nat
  residue : Nat
  regenCount : Nat
  btRun : Nat
  holdReason : Option HoldReason
  holdPending : Bool
deriving DecidableEq, Repr

/-- The blend state of the open fill (2.1); its window position is the record's pulses modulo 32 (R29). -/
structure Blend where
  nb : Nat
  service : Option Column
  bypassAll : Bool
  hardFill : Bool
deriving DecidableEq, Repr

/-- The route a fill pulse took (R9). -/
inductive Route where
  | bypass
  | column (c : Column)
deriving DecidableEq, Repr

/-- The stages of a regeneration run that claim the inlet (3.2). -/
inductive RegenStage where
  | brine
  | slowRinse
  | fastRinse
deriving DecidableEq, Repr

/-- The stage field of a run record; WAIT_INLET carries the awaited stage (3.2). -/
inductive RunStage where
  | waitWindow
  | waitInlet (awaited : RegenStage)
  | running (stage : RegenStage)
  | done
deriving DecidableEq, Repr

/-- When a run may begin (R49). -/
inductive Window where
  | anytime
  | quiet
deriving DecidableEq, Repr

/-- The outcomes of a run (3.2). -/
inductive RunOutcome where
  | done
  | fault
  | aborted
  | cancelled
deriving DecidableEq, Repr

/-- An entry of the regeneration list (R45). -/
structure RegenEntry where
  column : Column
  restart : Bool
deriving DecidableEq, Repr

/-- The run record (3.2). The run is in progress while `outcome` is absent. -/
structure RunRecord where
  column : Column
  stage : RunStage
  restarted : Bool
  brine : Nat
  slow : Nat
  fast : Nat
  window : Window
  stageK : Option Nat
  targetPulses : Option Nat
  stagePulses : Option Nat
  stageMs : Nat
  brineMl : Option Nat
  salt : Option Nat
  saltEmpty : Bool
  outcome : Option RunOutcome
deriving DecidableEq, Repr

/-- The regeneration settings (R59). -/
structure RegenSettings where
  brine : Nat
  slow : Nat
  fast : Nat
  window : Window
  automatic : Bool
deriving DecidableEq, Repr

/-! ## Supply Table (chapter 4) -/

/-- A supply entry (4.1). `stroke` is not used for SALT. The state is derived from these fields (R63). -/
structure SupplyEntry where
  capacity : Nat
  estimate : Nat
  lowMark : Nat
  stroke : Nat
  tracked : Bool
  capOpen : Bool
  low : Bool
  refills : Nat
deriving DecidableEq, Repr

/-- The derived states of a supply entry (R63). -/
inductive SupplyState where
  | unknown
  | ok
  | low
  | empty
  | open
deriving DecidableEq, Repr

/-! ## Dosing Unit (chapter 5) -/

/-- The states of a dose record (5.2). -/
inductive DoseState where
  | waiting
  | stroking
  | suspended
  | done
  | short
  | faulted
deriving DecidableEq, Repr

/-- A dose record (5.2). -/
structure DoseRecord where
  agent : Agent
  phaseId : Nat
  base : Nat
  volume : Nat
  hardness : Nat
  vRef : Nat
  v : Nat
  h : Nat
  s : Nat
  dose : Nat
  strokeVolume : Nat
  full : Nat
  planned : Nat
  done : Nat
  misses : Nat
  state : DoseState
  recompute : Bool
deriving DecidableEq, Repr

/-- Whom a stroke in flight serves: a dose record, the service test, or no one any more (R94). -/
inductive FlightFor where
  | record
  | test
  | nobody
deriving DecidableEq, Repr

/-- The stroke in flight, from its drive start to the close of its sense window (R88). -/
structure Flight where
  agent : Agent
  serves : FlightFor
  sensed : Bool
deriving DecidableEq, Repr

/-- The dose curve: six points (R80). -/
structure Curve where
  points : Vector (Nat × Nat) 6
deriving DecidableEq, Repr

/-- The soil table (R81). -/
structure SoilTable where
  t1 : Nat
  t2 : Nat
  t3 : Nat
  f0 : Nat
  f1 : Nat
  f2 : Nat
  f3 : Nat
deriving DecidableEq, Repr

/-- The dosing-pump test record (R97). -/
structure DoseTest where
  agent : Agent
  asked : Nat
  driven : Nat
  sensed : Nat
  running : Bool
deriving DecidableEq, Repr

/-! ## Wash Controller (chapter 6) -/

/-- The phase kinds (6.1). -/
inductive PhaseKind where
  | pre
  | main
  | rinse
  | final
  | dry
  | drain
deriving DecidableEq, Repr

/-- A checked phase record (R101). -/
structure PhaseRecord where
  id : Nat
  kind : PhaseKind
  fill : Nat
  temp : Nat
  hold : Nat
  heatLimit : Option Nat
  mask : Nat
  period : Nat
  speed : Nat
  detergent : Option Nat
  additive : Option Nat
  rinse : Option Nat
  soilSense : Bool
  drainAtEnd : Bool
  softRequired : Bool
  openDoor : Bool
  dryOverride : Option Nat
deriving DecidableEq, Repr

/-- The stages of a phase (6.3). DONE is passed through within one step (R107). -/
inductive Stage where
  | fill
  | heat
  | hold
  | sense
  | drain
  | drying
  | done
deriving DecidableEq, Repr

/-- The wash state (chapter 6). -/
inductive WashState where
  | idle
  | running
  | held
deriving DecidableEq, Repr

/-- The hold cause (R118): a condition, or HOST_PAUSE. -/
inductive HoldCause where
  | condition (c : Condition)
  | hostPause
deriving DecidableEq, Repr

/-- The active phase and its running figures (R106). `holdFracMs` is the part of the next hold second already counted,
`holdEnded` says that the countdown has ended, `classDone` that SENSE has its class (R114), `filled` that the phase's fill record
has closed (R120): it is then the newest of the ledger. -/
structure ActivePhase where
  record : PhaseRecord
  stage : Stage
  holdSec : Nat
  holdFracMs : Nat
  target : Int
  detergentAsked : Bool
  rinseAsked : Bool
  holdEnded : Bool
  classDone : Bool
  filled : Bool
deriving DecidableEq, Repr

/-- The program context (R108). -/
structure ProgramContext where
  soilClass : Option Nat
  shortfall : Bool
  total : Nat
deriving DecidableEq, Repr

/-- The outcomes of a program (11.4). -/
inductive ProgramOutcome where
  | completed
  | aborted
deriving DecidableEq, Repr

/-! ## Heat and Circulation Unit (chapter 7) -/

/-- The modes of a heat request; `test` is the heater test's own (7.2, R142). -/
inductive HeatMode where
  | heat
  | maintain
  | test
deriving DecidableEq, Repr

/-- The heat request in force (7.2). `reached` and `band` are what R133 has reported for it. -/
structure HeatRequest where
  mode : HeatMode
  target : Int
  reached : Bool
  band : Option Bool
deriving DecidableEq, Repr

/-- The burst window (R130): idle, or in its on or off part with the half-cycles left and the level it was loaded with. -/
inductive Burst where
  | idle
  | on (left level : Nat)
  | off (left : Nat)
deriving DecidableEq, Repr

/-- The dry count (R132); `raised` is the stopped count after HEATER_DRY. -/
inductive DryCount where
  | stopped
  | counting (ms : Nat)
  | raised
deriving DecidableEq, Repr

/-- The target of a diverter move: a zone, or the first zone the cam reaches, for a test from BETWEEN (R142). -/
inductive MoveTarget where
  | zone (z : Zone)
  | anyZone
deriving DecidableEq, Repr

/-- A diverter move in progress (R136, R137); `forTest` marks the diverter test's move (R142). -/
structure DiverterMove where
  target : MoveTarget
  ms : Nat
  forTest : Bool
deriving DecidableEq, Repr

/-- The watch on the fed zone's arm (R140). -/
inductive ArmWatch where
  | none
  | grace (ms : Nat)
  | watching (gapMs : Nat)
deriving DecidableEq, Repr

/-- An arm's four latest captures and the time since its last pulse, absent before its first pulse (R139). -/
structure ArmCaptures where
  c0 : Nat
  c1 : Nat
  c2 : Nat
  c3 : Nat
  sinceMs : Option Nat
deriving DecidableEq, Repr

/-! ## Door Unit (chapter 8) -/

/-- The door class (R148). -/
inductive DoorClass where
  | closed
  | ajar
  | open
deriving DecidableEq, Repr

/-- A direction of the hinge (R145). -/
inductive Direction where
  | opening
  | closing
deriving DecidableEq, Repr

/-- The opener states (R150). -/
inductive OpenerState where
  | retracted
  | extending
  | extended
  | retracting
  | unknownPosition
  | fault
deriving DecidableEq, Repr

/-- The two opener commands (R151). -/
inductive OpenerCmd where
  | extend
  | retract
deriving DecidableEq, Repr

/-- The issuers of an opener command (8.2). -/
inductive Issuer where
  | host
  | dry
  | test
deriving DecidableEq, Repr

/-- The phases of a move (8.2). -/
inductive MovePhase where
  | releasing
  | driving
deriving DecidableEq, Repr

/-- The outcomes of a move (R156). -/
inductive MoveOutcome where
  | done
  | fault
  | stopped
deriving DecidableEq, Repr

/-- The last completion (8.2). -/
structure Completion where
  commanded : OpenerCmd
  issuer : Issuer
  outcome : MoveOutcome
deriving DecidableEq, Repr

/-- The answer to an opener command (R151). `ended` is an acceptance whose move ended DONE at once (R154, R155). -/
inductive CmdAnswer where
  | accepted
  | ended
  | busy
  | state
deriving DecidableEq, Repr

/-! ## Drying Controller (chapter 9) -/

/-- The kinds of a drying run (9.1). -/
inductive DryKind where
  | open
  | closed
deriving DecidableEq, Repr

/-- The states of a drying run (9.1). -/
inductive DryState where
  | cooling
  | opening
  | ajar
  | yielding
  | ending
  | closedDry
  | ended
deriving DecidableEq, Repr

/-- The outcomes of a drying run (9.1). -/
inductive DryOutcome where
  | done
  | userOpened
  | userClosed
  | degraded
  | aborted
deriving DecidableEq, Repr

/-- The outstanding command of a run: WANTED, or MOVING (R164). -/
structure Outstanding where
  cmd : OpenerCmd
  moving : Bool
deriving DecidableEq, Repr

/-- A move end kept while the run was suspended (R164, R171). -/
structure PendingEnd where
  cmd : OpenerCmd
  outcome : MoveOutcome
deriving DecidableEq, Repr

/-- The drying settings (R173). -/
structure DrySettings where
  openDelay : Nat
  openTemp : Nat
  dryTime : Nat
  humidity : Nat
  fan : Bool
deriving DecidableEq, Repr

/-- The drying run record (9.1). -/
structure DryRun where
  kind : DryKind
  state : DryState
  stateMs : Nat
  dryTime : Nat
  extended : Bool
  dryMs : Nat
  humLow : Nat
  rest : Option Nat
  userOpened : Bool
  degraded : Bool
  outstanding : Option Outstanding
  pendingEnd : Option PendingEnd
  suspended : Bool
  fanDemand : Bool
  settings : DrySettings
  outcome : Option DryOutcome
deriving DecidableEq, Repr

/-! ## Service tests (10.5) -/

/-- An entry of the service test table: the amount in force, and the progress as seconds run (in ms), strokes driven and
sensed, and the position the cam or the rod reached (R187, R188). -/
structure TestEntry where
  running : Bool
  amount : Nat
  progressMs : Nat
  driven : Nat
  sensed : Nat
  arrived : Option Bool
  cam : Option Cam
  rod : Option OpenerState
  outcome : Option TestOutcome
deriving DecidableEq, Repr

/-! ## Link Port (chapter 11) -/

/-- The ten refusal codes (R192). -/
inductive RefusalCode where
  | frame
  | length
  | unknown
  | field
  | state
  | busy
  | full
  | duplicate
  | overrun
  | notFound
deriving DecidableEq, Repr

/-- The twelve attention sources, in the order of their numbers (11.4). -/
inductive Source where
  | mode
  | condition
  | phase
  | program
  | dose
  | column
  | regen
  | supply
  | door
  | opener
  | dry
  | fill
deriving DecidableEq, Repr

/-- The summary an owner hands over with its source (11.4). -/
inductive Summary where
  | mode (m : Mode)
  | condition (c : Condition)
  | phase (id : Nat)
  | program (o : ProgramOutcome) (total : Nat)
  | dose (a : Agent) (st : DoseState)
  | column (c : Column) (st : ColState)
  | regen (c : Column) (o : RunOutcome)
  | supply (e : Entry) (st : SupplyState)
  | door (c : DoorClass) (latched : Bool)
  | opener (cmd : OpenerCmd) (o : MoveOutcome)
  | dry (o : DryOutcome)
  | fill (id : Nat) (o : FillOutcome)
deriving DecidableEq, Repr

/-- A source's pending bit and its latest summary (R195). -/
structure SourceEntry where
  pending : Bool
  summary : Option Summary
deriving DecidableEq, Repr

/-- The receiver (R191): outside a frame, or inside one with the bytes received after the start byte. -/
inductive Receiver where
  | outside
  | inside (bytes : List Byte)
deriving DecidableEq, Repr

/-- A complete frame (R191). -/
inductive Frame where
  | lengthFailure
  | crcFailure
  | valid (kind : Byte) (payload : List Byte)
deriving DecidableEq, Repr

/-- The fill record of a held phase (R120): open or closed, and its pulses against its target. -/
structure HeldFill where
  isOpen : Bool
  pulses : Nat
  target : Nat
deriving DecidableEq, Repr

/-- The Wash Controller's and the other owners' figures of the held context, as R120 lists them. `fill` is absent while the phase
has no fill record yet, `windowPos` without an open one. -/
structure HeldContext where
  phaseId : Nat
  kind : PhaseKind
  stage : Stage
  cause : Option HoldCause
  holdSec : Nat
  target : Int
  detergentAsked : Bool
  rinseAsked : Bool
  fill : Option HeldFill
  fillSec : Nat
  windowPos : Option Nat
  live : List DoseRecord
  ended : List DoseRecord
  heatSec : Nat
  zone : Option Zone
  periodSec : Nat
  dropped : Nat
  circSec : Nat
deriving DecidableEq, Repr

/-- The active phase as GET-CONTEXT gives it (R126): its record in the 23 bytes of R201, stage, hold seconds, effective target and
the dose requests made. -/
structure ActiveReport where
  record : List Byte
  stage : Stage
  holdSec : Nat
  target : Int
  detergentAsked : Bool
  rinseAsked : Bool
deriving DecidableEq, Repr

/-- The run record as GET-COLUMNS gives it: the fields of 3.2, the stage time in seconds (R60). -/
structure RunReport where
  column : Column
  stage : RunStage
  restarted : Bool
  brine : Nat
  slow : Nat
  fast : Nat
  window : Window
  stageK : Option Nat
  targetPulses : Option Nat
  stagePulses : Option Nat
  stageSec : Nat
  brineMl : Option Nat
  salt : Option Nat
  saltEmpty : Bool
  outcome : Option RunOutcome
deriving DecidableEq, Repr

/-- A supply entry as SET-SUPPLY and GET-SUPPLY give it (R73, R74). The stroke volume is absent for SALT. -/
structure SupplyReport where
  entry : Entry
  capacity : Nat
  estimate : Nat
  lowMark : Nat
  stroke : Option Nat
  tracked : Bool
  state : SupplyState
  capOpen : Bool
  low : Bool
  refills : Nat
deriving DecidableEq, Repr

/-- An entry of the service test table as GET-CONDITIONS gives it (R181, R188), the time run in seconds. -/
structure TestReport where
  running : Bool
  amount : Nat
  progressSec : Nat
  driven : Nat
  sensed : Nat
  arrived : Option Bool
  cam : Option Cam
  rod : Option OpenerState
  outcome : Option TestOutcome
deriving DecidableEq, Repr

/-- The data of an OK reply (R192). `bytes` holds a payload whose layout the manual gives; the other shapes hold the data
that the owner's rule names, whose byte layout the manual does not give (log 18). -/
inductive ReplyData where
  | empty
  | bytes (payload : List Byte)
  | water (w : WaterSettings)
  | column (c : Column) (r : ColumnRecord)
  | regenSettings (s : RegenSettings)
  | supply (r : SupplyReport)
  | curve (c : Curve)
  | soil (t : SoilTable)
  | conditionSet (s : CondSet)
  | conditionSets (causes flags : CondSet)
  | dry (s : DrySettings)
  | queued (n : Nat)
  | held (h : Option HeldContext)
  | regenList (l : List RegenEntry)
  | opener (st : OpenerState) (commanded : OpenerCmd)
  | phases (count : Nat) (records : List (List Byte)) (active : Option (Nat × PhaseKind))
  | context (wash : WashState) (abortDrain : Bool) (active : Option ActiveReport) (ctx : Option ProgramContext)
      (held : Option HeldContext)
  | columns (a b : ColumnRecord) (pref : Column) (list : List RegenEntry) (blend : Option (Blend × Nat))
      (run : Option RunReport)
  | supplies (entries : List SupplyReport)
  | doses (live ended : List DoseRecord) (flight : Option Agent) (sinceDriveMs : Nat) (curve : Curve) (soil : SoilTable)
      (test : Option DoseTest)
  | conditions (mode : Mode) (causes flags traps : CondSet) (counts : Vector Nat 21) (safeSet : List (Condition × Bool))
      (tests : Vector TestReport 10)
  | door (angle : Nat) (referenced : Bool) (direction : Option Direction) (changes : Nat) (cls : DoorClass)
      (doorClosed latched endRetracted endExtended : Bool) (st : OpenerState) (commanded : OpenerCmd) (issuer : Issuer)
      (phase : Option (MovePhase × Nat)) (dryHold : Bool) (last : Option Completion)
deriving DecidableEq, Repr

/-- The owner's answer to a request (R192). -/
inductive Answer where
  | ok (data : ReplyData)
  | refused (code : RefusalCode)
deriving DecidableEq, Repr

/-- A reply frame: the request's kind and the answer (R192, and R193's OVERRUN refusal). -/
structure Reply where
  kind : Byte
  answer : Answer
deriving DecidableEq, Repr

end Sys2Proof.Machine
end

