-- ==== Sys2Proof/Config.lean ====
section
/-! DEFINITION. What the manual fixes for the whole part, and the free values: constants without a body, for what the manual
leaves open. Nothing can be proved of a free value but that it is one value. -/

namespace Sys2Proof.Config

open Sys2Proof.Machine

/-! ## Free values: byte codes the manual does not give (log 6) -/

/-- The byte that stands for a column state in COLUMN's summary (11.4). Free value. -/
opaque columnStateCode : ColState → Byte
/-- The byte that stands for an ended state in DOSE's summary (11.4). Free value. -/
opaque doseStateCode : DoseState → Byte
/-- The byte that stands for a run's outcome in REGEN's summary (11.4). Free value. -/
opaque runOutcomeCode : RunOutcome → Byte
/-- The byte that stands for an entry's state in SUPPLY's summary (11.4). Free value. -/
opaque supplyStateCode : SupplyState → Byte
/-- The byte that stands for the door class in DOOR's summary (11.4). Free value. -/
opaque doorClassCode : DoorClass → Byte
/-- The byte that stands for the latch reading in DOOR's summary (11.4). Free value. -/
opaque latchCode : Bool → Byte
/-- The byte that stands for a move's outcome in OPENER's summary (11.4). Free value. -/
opaque moveOutcomeCode : MoveOutcome → Byte
/-- The byte that stands for a run's outcome in DRY's summary and in GET-STATUS (11.4, R200). Free value; 00h is "absent". -/
opaque dryOutcomeCode : DryOutcome → Byte
/-- The kind byte of the drying run record in GET-STATUS (R200). Free value. -/
opaque dryKindCode : DryKind → Byte
/-- The state byte of the drying run record in GET-STATUS (R200). Free value. -/
opaque dryStateCode : DryState → Byte

/-! ## Free values: figures beyond their field (log 7) -/

/-- What a one-byte field shows of a figure above 255. Free value. -/
opaque beyond8 : Nat → BitVec 8
/-- What a two-byte field shows of a figure above 65,535. Free value. -/
opaque beyond16 : Nat → BitVec 16
/-- What a four-byte field shows of a figure above 4,294,967,295. Free value. -/
opaque beyond32 : Nat → BitVec 32
/-- The program water total after a sum above 4,294,967,295 (R108). Free value. -/
opaque totalBeyond : Nat → BitVec 32

/-! ## Free values: bytes the manual leaves open (log 18) -/

/-- The content of the two bytes of an absent optional field of a phase record that a reply returns: the field of presence bit `n`
(R201 says of a request that it is ignored). Free value. -/
opaque absentField : PhaseRecord → Nat → BitVec 16

/-! ## Free values: two events without an order (log 42) -/

/-- Whether the diverter cam stands at the target of a move whose 4 s expire before the cam's own event is taken (R137), by the uptime
of the expiry, and at which zone, for a move that any zone ends (R142). Free value. -/
opaque camArrived : Nat → Option Zone

/-! ## Defaults of the settings -/

/-- R20's defaults. -/
def waterDefaults : WaterSettings := ⟨500, 0, 40, 4000, 1⟩

/-- R59's defaults. -/
def regenDefaults : RegenSettings := ⟨300, 240, 1500, .anytime, true⟩

/-- R80's default curve. -/
def curveDefaults : Curve :=
  ⟨#v[(0, 200), (30, 230), (60, 256), (120, 300), (250, 380), (500, 460)]⟩

/-- R81's defaults. -/
def soilDefaults : SoilTable := ⟨200, 450, 700, 230, 256, 288, 340⟩

/-- R173's defaults. -/
def dryDefaults : DrySettings := ⟨120, 550, 1800, 45, true⟩

/-- The power-on values of a column record (R43). -/
def columnDefaults : ColumnRecord := ⟨.fresh, 12000000, 12000000, 0, 0, 0, none, false⟩

/-- The power-on values of the four supply entries (4.1, R76). SALT has no stroke volume: its field holds 0, and no rule or
reply reads it. -/
def supplyDefaults : Entry → SupplyEntry
  | .detergent => ⟨4000, 0, 600, 5, false, false, false, 0⟩
  | .rinseAid => ⟨1100, 0, 200, 2, false, false, false, 0⟩
  | .additive => ⟨2500, 0, 300, 5, false, false, false, 0⟩
  | .salt => ⟨1200, 0, 150, 0, false, false, false, 0⟩

/-- A service test entry that has not been written since the reset (R189). -/
def testDefaults : TestEntry := ⟨false, 0, 0, 0, 0, none, none, none, none⟩

/-! ## The inputs of the model's reset state -/

/-- What the inputs read in `State.reset`: a machine at rest, shut, dry and cold.
DESIGN CHOICE, unsafe (log 4): the manual gives no input its reading. -/
def quietInputs : Inputs where
  overfillClosed := false
  leakWet := false
  waterPresent := false
  detergentCapOpen := false
  rinseCapOpen := false
  additiveCapOpen := false
  saltCapOpen := false
  detergentLow := false
  rinseLow := false
  additiveLow := false
  saltLow := false
  waterTemp := 0
  cam := .between
  encoderA := false
  encoderB := false
  doorClosed := true
  latchEngaged := true
  endRetracted := true
  endExtended := false
  cabinetTemp := 0
  cabinetHumidity := 0

end Sys2Proof.Config
end

