-- ==== Sys2Proof/Machine/State.lean ====
section
/-! DEFINITION. The state of the D440 as plain data: one record for each of the ten blocks, the clock, and the queue of waiting
commands; the reasons a step can stop; and the machine right after a power-on reset. -/

namespace Sys2Proof.Machine

/-- Nothing in the manual stops the part: every row leaves a next state (what it calls faults are conditions, 10.1).
So there is no fault, and this is safe to rely on. -/
inductive Fault : Type
deriving DecidableEq, Repr

/-- The reasons the model refuses a command. -/
inductive Refusal where
  /-- Raised only by an arm of `exec` whose command has no meaning yet, with the row's mnemonic. Safe: no claim about the
  command can be proved through it. No arm uses it. -/
  | notModelled (mnemonic : String)
deriving DecidableEq, Repr

/-- Link Port (chapter 11). `sending` is the reply being sent: that of the frame in service, or, with none in service, an OVERRUN
refusal (R193). -/
structure LinkPort where
  rx : Receiver
  gapMs : Nat
  inService : Option Byte
  waiting : Option Frame
  overrun : Option Byte
  sending : Option Reply
  resetArmed : Bool
  supervision : Option Nat
  sources : Vector SourceEntry 12
  latch : Option Source
  lastLatched : Source
  lineLowMs : Nat
deriving DecidableEq, Repr

/-- Water Path Unit (chapter 1). -/
structure WaterPath where
  grant : Option Claimant
  waitFill : Option FillClaim
  waitRegen : Option RegenStage
  waitTest : Option Nat
  inhibit : Bool
  valveOpen : Bool
  total : Pulses
  fillTotal : Pulses
  regenTotal : Pulses
  serviceCount : Pulses
  unattributed : Pulses
  window : Nat
  fillRec : Option FillRecord
  fillMs : Nat
  ledger : List FillRecord
  drain : Option Drain
  drainPump : Bool
  overfillClosed : Bool
  leakWet : Bool
  waterPresent : Bool
  settings : WaterSettings
deriving DecidableEq, Repr

/-- Softener Unit (chapters 2 and 3). `selector` names the column the selector is set to, or none when it is closed. -/
structure Softener where
  colA : ColumnRecord
  colB : ColumnRecord
  pref : Column
  blend : Option Blend
  blendValve : Bool
  selector : Option Column
  brineValve : Bool
  restrictor : Bool
  list : List RegenEntry
  run : Option RunRecord
  settings : RegenSettings
deriving DecidableEq, Repr

/-- Supply Table (chapter 4). -/
structure SupplyTable where
  detergent : SupplyEntry
  rinseAid : SupplyEntry
  additive : SupplyEntry
  salt : SupplyEntry
deriving DecidableEq, Repr

/-- Dosing Unit (chapter 5). `live` is the driver's waiting list, front first; `ended` the ended records in order. -/
structure Dosing where
  curve : Curve
  soil : SoilTable
  live : List DoseRecord
  ended : List DoseRecord
  flight : Option Flight
  drive : Option Agent
  sinceDriveMs : Nat
  testRec : Option DoseTest
deriving DecidableEq, Repr

/-- Wash Controller (chapter 6). -/
structure WashController where
  queue : List PhaseRecord
  active : Option ActivePhase
  wash : WashState
  ctx : Option ProgramContext
  cause : Option HoldCause
  abortDrain : Bool
deriving DecidableEq, Repr

/-- Heat and Circulation Unit (chapter 7). -/
structure HeatUnit where
  temp : Int
  noSample : Bool
  heat : Option HeatRequest
  level : Nat
  burst : Burst
  energised : Bool
  dry : DryCount
  heatMs : Nat
  demand : Option Nat
  pumpRuns : Bool
  circMs : Nat
  period : Nat
  heatLimit : Nat
  mask : Nat
  dropped : Nat
  checking : Bool
  fixed : Bool
  cam : Cam
  move : Option DiverterMove
  pendingMove : Option Zone
  zone : Option Zone
  periodMs : Nat
  watch : ArmWatch
  lowerArm : ArmCaptures
  upperArm : ArmCaptures
  classify : Option (List Nat)
  lastMean : Nat
  lastClass : Option Nat
deriving DecidableEq, Repr

/-- Door Unit (chapter 8). `motor` is the direction the rod motor runs in. -/
structure DoorUnit where
  angle : Nat
  referenced : Bool
  direction : Option Direction
  changes : Nat
  doorClosed : Bool
  latched : Bool
  encA : Bool
  encB : Bool
  opener : OpenerState
  commanded : OpenerCmd
  issuer : Issuer
  phase : Option MovePhase
  moveMs : Nat
  endRetracted : Bool
  endExtended : Bool
  last : Option Completion
  dryHold : Bool
  solenoid : Bool
  pulseMs : Nat
  motor : Option OpenerCmd
deriving DecidableEq, Repr

/-- Drying Controller (chapter 9). -/
structure Drying where
  settings : DrySettings
  run : Option DryRun
  cabTemp : Int
  cabHum : Int
deriving DecidableEq, Repr

/-- Condition Unit (chapter 10). -/
structure ConditionUnit where
  mode : Mode
  causes : CondSet
  flags : CondSet
  traps : CondSet
  counts : Vector Nat 21
  safeSet : List Condition
  tests : Vector TestEntry 10
  dryWaterMs : Nat
deriving DecidableEq, Repr

/-- The whole machine: the queue of waiting commands, the clock, and the ten blocks. -/
structure State where
  pending : List Instr
  uptimeMs : Nat
  lkp : LinkPort
  wpu : WaterPath
  sfu : Softener
  spt : SupplyTable
  dsu : Dosing
  wsc : WashController
  hcu : HeatUnit
  dru : DoorUnit
  dyc : Drying
  cdu : ConditionUnit
deriving DecidableEq, Repr

/-- The Link Port after a reset of either kind (R199); MODE is set after a commanded reset by the reset operation. -/
def LinkPort.atReset : LinkPort where
  rx := .outside
  gapMs := 0
  inService := none
  waiting := none
  overrun := none
  sending := none
  resetArmed := false
  supervision := none
  sources := Vector.replicate 12 ⟨false, none⟩
  latch := none
  lastLatched := .fill
  lineLowMs := 1

/-- The Water Path Unit after a power-on reset (R21), its switches as the inputs read. -/
def WaterPath.atPowerOn (i : Inputs) : WaterPath where
  grant := none
  waitFill := none
  waitRegen := none
  waitTest := none
  inhibit := false
  valveOpen := false
  total := 0
  fillTotal := 0
  regenTotal := 0
  serviceCount := 0
  unattributed := 0
  window := 0
  fillRec := none
  fillMs := 0
  ledger := []
  drain := none
  drainPump := false
  overfillClosed := i.overfillClosed
  leakWet := i.leakWet
  waterPresent := i.waterPresent
  settings := Config.waterDefaults

/-- The Softener Unit after a power-on reset (R43, R61). -/
def Softener.atPowerOn : Softener where
  colA := Config.columnDefaults
  colB := Config.columnDefaults
  pref := .a
  blend := none
  blendValve := false
  selector := none
  brineValve := false
  restrictor := false
  list := []
  run := none
  settings := Config.regenDefaults

/-- The Supply Table after a power-on reset, its cap switch fields as the inputs read (R64, R76). -/
def SupplyTable.atPowerOn (i : Inputs) : SupplyTable where
  detergent := { Config.supplyDefaults .detergent with capOpen := i.detergentCapOpen }
  rinseAid := { Config.supplyDefaults .rinseAid with capOpen := i.rinseCapOpen }
  additive := { Config.supplyDefaults .additive with capOpen := i.additiveCapOpen }
  salt := { Config.supplyDefaults .salt with capOpen := i.saltCapOpen }

/-- The Dosing Unit after a power-on reset (R99). -/
def Dosing.atPowerOn : Dosing where
  curve := Config.curveDefaults
  soil := Config.soilDefaults
  live := []
  ended := []
  flight := none
  drive := none
  sinceDriveMs := 65535
  testRec := none

/-- The Wash Controller after a reset of either kind (R127). -/
def WashController.atReset : WashController where
  queue := []
  active := none
  wash := .idle
  ctx := none
  cause := none
  abortDrain := false

/-- An arm's captures after a reset (R144). -/
def ArmCaptures.atReset : ArmCaptures := ⟨0, 0, 0, 0, none⟩

/-- The Heat and Circulation Unit after a reset of either kind (R144), before its first sample. -/
def HeatUnit.atReset (i : Inputs) : HeatUnit where
  temp := 0
  noSample := true
  heat := none
  level := 0
  burst := .idle
  energised := false
  dry := .stopped
  heatMs := 0
  demand := none
  pumpRuns := false
  circMs := 0
  period := 0
  heatLimit := 0
  mask := 0
  dropped := 0
  checking := true
  fixed := false
  cam := i.cam
  move := none
  pendingMove := none
  zone := none
  periodMs := 0
  watch := .none
  lowerArm := ArmCaptures.atReset
  upperArm := ArmCaptures.atReset
  classify := none
  lastMean := 0
  lastClass := none

/-- The Door Unit after a reset of either kind, with its first scan (R147, R149, R157, R160). The move seconds start at 0 (log 5).
-/
def DoorUnit.atReset (i : Inputs) : DoorUnit where
  angle := 0
  referenced := i.doorClosed
  direction := none
  changes := 0
  doorClosed := i.doorClosed
  latched := i.latchEngaged
  encA := i.encoderA
  encB := i.encoderB
  opener := if i.endRetracted then .retracted else .unknownPosition
  commanded := .retract
  issuer := .host
  phase := none
  moveMs := 0
  endRetracted := i.endRetracted
  endExtended := i.endExtended
  last := none
  dryHold := false
  solenoid := false
  pulseMs := 0
  motor := none

/-- The Drying Controller after a power-on reset, with its first sample (R174). -/
def Drying.atPowerOn (i : Inputs) : Drying where
  settings := Config.dryDefaults
  run := none
  cabTemp := i.cabinetTemp
  cabHum := i.cabinetHumidity

/-- The Condition Unit after a power-on reset (R189). -/
def ConditionUnit.atPowerOn : ConditionUnit where
  mode := .standby
  causes := 0
  flags := 0
  traps := 0
  counts := Vector.replicate 21 0
  safeSet := []
  tests := Vector.replicate 10 Config.testDefaults
  dryWaterMs := 0

/-- The machine after a power-on reset, before the scans that can raise a condition (R18, R64's low switches, R128). -/
def State.atPowerOn (pending : List Instr) (i : Inputs) : State where
  pending := pending
  uptimeMs := 0
  lkp := LinkPort.atReset
  wpu := WaterPath.atPowerOn i
  sfu := Softener.atPowerOn
  spt := SupplyTable.atPowerOn i
  dsu := Dosing.atPowerOn
  wsc := WashController.atReset
  hcu := HeatUnit.atReset i
  dru := DoorUnit.atReset i
  dyc := Drying.atPowerOn i
  cdu := ConditionUnit.atPowerOn

/-- The machine right after a power-on reset whose first scan found `Config.quietInputs`: nothing is raised, and the
water temperature has been sampled once (R128). -/
def State.reset : State :=
  let s := State.atPowerOn [] Config.quietInputs
  { s with hcu := { s.hcu with temp := Config.quietInputs.waterTemp, noSample := false } }

end Sys2Proof.Machine
end

