-- ==== Sys2Proof/Machine/Operands.lean ====
section
/-! DEFINITION. The arithmetic and the codes the manual's fields use: clamping and rounding ("Arithmetic", 00), big-endian
bytes (11.1), code numbers of the enumerations, and the phase record's check (R101, R201). -/

namespace Sys2Proof.Machine

/-! ## Arithmetic -/

/-- "Clamped to a range". -/
def clamp (lo hi n : Nat) : Nat := max lo (min hi n)

/-- "Rounded up": the smallest integer not less than the exact quotient. -/
def divUp (a b : Nat) : Nat := (a + (b - 1)) / b

/-- "Rounded to nearest (half up)"; 0 where the divisor is 0 (R10). -/
def divNearest (a b : Nat) : Nat := (2 * a + b) / (2 * b)

/-- A saturating counter's next value. -/
def satSucc (top n : Nat) : Nat := min top (n + 1)

/-! ## Bytes, most significant first (11.1) -/

/-- A one-byte field. -/
def be1 (n : Nat) : List Byte := [if n < 256 then BitVec.ofNat 8 n else Config.beyond8 n]

/-- The two bytes of a 16-bit word. -/
def word16 (w : BitVec 16) : List Byte := [w.extractLsb' 8 8, w.extractLsb' 0 8]

/-- A two-byte unsigned field. -/
def be2 (n : Nat) : List Byte := word16 (if n < 65536 then BitVec.ofNat 16 n else Config.beyond16 n)

/-- A two-byte signed field, two's complement (temperature readings, 11.1). -/
def be2s (i : Int) : List Byte :=
  word16 (if -32768 ≤ i ∧ i < 32768 then BitVec.ofInt 16 i else Config.beyond16 i.natAbs)

/-- A two-byte field that is absent or unsigned: FFFFh marks it absent (R202, R200). -/
def be2o : Option Nat → List Byte
  | none => [0xFF, 0xFF]
  | some n => be2 n

/-- The four bytes of a 32-bit word. -/
def word32 (w : BitVec 32) : List Byte :=
  [w.extractLsb' 24 8, w.extractLsb' 16 8, w.extractLsb' 8 8, w.extractLsb' 0 8]

/-- A four-byte unsigned field. -/
def be4 (n : Nat) : List Byte := word32 (if n < 4294967296 then BitVec.ofNat 32 n else Config.beyond32 n)

/-- The six bytes of a 48-bit counter. -/
def word48 (w : Pulses) : List Byte :=
  [w.extractLsb' 40 8, w.extractLsb' 32 8, w.extractLsb' 24 8, w.extractLsb' 16 8, w.extractLsb' 8 8, w.extractLsb' 0 8]

/-- A bit of a flag byte. -/
def bit (n : Nat) (b : Bool) : Byte := if b then 1#8 <<< n else 0

/-! ## Codes -/

/-- A column field: 0 for A, 1 for B (R36, R46). -/
def Column.ofCode : Nat → Option Column
  | 0 => some .a
  | 1 => some .b
  | _ => none

/-- The other column. -/
def Column.other : Column → Column
  | .a => .b
  | .b => .a

/-- The link code of a column (R36). -/
def Column.code : Column → Byte
  | .a => 0
  | .b => 1

/-- The entry field of SET-SUPPLY (R73). -/
def Entry.ofCode : Nat → Option Entry
  | 0 => some .detergent
  | 1 => some .rinseAid
  | 2 => some .additive
  | 3 => some .salt
  | _ => none

/-- The link code of an entry (R73). -/
def Entry.code : Entry → Byte
  | .detergent => 0
  | .rinseAid => 1
  | .additive => 2
  | .salt => 3

/-- The agent value of EDIT-CONTEXT (R123). -/
def Agent.ofCode : Nat → Option Agent
  | 0 => some .detergent
  | 1 => some .rinseAid
  | 2 => some .additive
  | _ => none

/-- The link code of an agent (R123). -/
def Agent.code : Agent → Byte
  | .detergent => 0
  | .rinseAid => 1
  | .additive => 2

/-- The supply entry of an agent (R66). -/
def Agent.entry : Agent → Entry
  | .detergent => .detergent
  | .rinseAid => .rinseAid
  | .additive => .additive

/-- The position field of OPENER and of the opener test: 0 RETRACT, 1 EXTEND (R151, R187). -/
def OpenerCmd.ofCode : Nat → Option OpenerCmd
  | 0 => some .retract
  | 1 => some .extend
  | _ => none

/-- The actuator field of TEST (R187). -/
def Actuator.ofCode : Nat → Option Actuator
  | 0 => some .inlet
  | 1 => some .drainPump
  | 2 => some .circPump
  | 3 => some .heater
  | 4 => some .detergentPump
  | 5 => some .rinsePump
  | 6 => some .additivePump
  | 7 => some .diverter
  | 8 => some .fan
  | 9 => some .opener
  | _ => none

/-- An actuator's place in the service test table (R187). -/
def Actuator.idx : Actuator → Fin 10
  | .inlet => 0
  | .drainPump => 1
  | .circPump => 2
  | .heater => 3
  | .detergentPump => 4
  | .rinsePump => 5
  | .additivePump => 6
  | .diverter => 7
  | .fan => 8
  | .opener => 9

/-- The limit of a test's amount (R187); the opener and the diverter have none. -/
def Actuator.limit : Actuator → Nat
  | .inlet => 60
  | .drainPump => 120
  | .circPump => 120
  | .heater => 30
  | .detergentPump => 10
  | .rinsePump => 10
  | .additivePump => 10
  | .diverter => 0
  | .fan => 300
  | .opener => 0

/-- The agent of a dosing-pump test (R187). -/
def Actuator.agent : Actuator → Option Agent
  | .detergentPump => some .detergent
  | .rinsePump => some .rinseAid
  | .additivePump => some .additive
  | _ => none

/-- The actuator that an agent's pump is (R187). -/
def Agent.actuator : Agent → Actuator
  | .detergent => .detergentPump
  | .rinseAid => .rinsePump
  | .additive => .additivePump

/-- A condition's code, 1 to 21 (10.1). -/
def Condition.code : Condition → Nat
  | .doorOpened => 1
  | .fillSlow => 2
  | .noWater => 3
  | .hardFill => 4
  | .heatSlow => 5
  | .armStalled => 6
  | .diverterFault => 7
  | .doseShort => 8
  | .dosePumpFault => 9
  | .drainSlow => 10
  | .openerFault => 11
  | .regenFault => 12
  | .earlyBreakthrough => 13
  | .saltEmpty => 14
  | .overfill => 15
  | .leak => 16
  | .inletLeak => 17
  | .heaterDry => 18
  | .overtemp => 19
  | .sensorFault => 20
  | .linkLost => 21

/-- A condition's place in the condition table. -/
def Condition.idx : Condition → Fin 21
  | .doorOpened => 0
  | .fillSlow => 1
  | .noWater => 2
  | .hardFill => 3
  | .heatSlow => 4
  | .armStalled => 5
  | .diverterFault => 6
  | .doseShort => 7
  | .dosePumpFault => 8
  | .drainSlow => 9
  | .openerFault => 10
  | .regenFault => 11
  | .earlyBreakthrough => 12
  | .saltEmpty => 13
  | .overfill => 14
  | .leak => 15
  | .inletLeak => 16
  | .heaterDry => 17
  | .overtemp => 18
  | .sensorFault => 19
  | .linkLost => 20

/-- A condition's bit in a condition set (11.1). -/
def Condition.mask (c : Condition) : CondSet := 1#32 <<< c.code

/-- A condition's class (10.1). -/
def Condition.cls : Condition → CondClass
  | .doorOpened | .noWater | .drainSlow => .holdAlways
  | .fillSlow | .hardFill | .heatSlow | .armStalled | .diverterFault | .doseShort | .dosePumpFault => .trappable
  | .openerFault | .regenFault | .earlyBreakthrough | .saltEmpty => .note
  | .overfill | .leak | .inletLeak | .heaterDry | .overtemp | .sensorFault | .linkLost => .safeAlways

/-- The bits of the 21 conditions; the other bits of a condition set are ignored on receipt (11.1, R180). -/
def allConditions : CondSet := 0x003FFFFE

/-- The bits of the TRAPPABLE conditions, codes 2 and 4 to 9 (10.1, R179). -/
def trappableConditions : CondSet := 0x000003F4

/-- The bits of the HOLD_ALWAYS conditions, codes 1, 3 and 10 (10.1, R121). -/
def holdConditions : CondSet := 0x0000040A

/-- A source's number, 0 to 11 (11.4). -/
def Source.idx : Source → Fin 12
  | .mode => 0
  | .condition => 1
  | .phase => 2
  | .program => 3
  | .dose => 4
  | .column => 5
  | .regen => 6
  | .supply => 7
  | .door => 8
  | .opener => 9
  | .dry => 10
  | .fill => 11

/-- The source of a number (R198). -/
def Source.ofCode : Nat → Option Source
  | 0 => some .mode
  | 1 => some .condition
  | 2 => some .phase
  | 3 => some .program
  | 4 => some .dose
  | 5 => some .column
  | 6 => some .regen
  | 7 => some .supply
  | 8 => some .door
  | 9 => some .opener
  | 10 => some .dry
  | 11 => some .fill
  | _ => none

/-- A refusal's code (R192). -/
def RefusalCode.code : RefusalCode → Byte
  | .frame => 1
  | .length => 2
  | .unknown => 3
  | .field => 4
  | .state => 5
  | .busy => 6
  | .full => 7
  | .duplicate => 8
  | .overrun => 9
  | .notFound => 10

/-- A mode's code (R200). -/
def Mode.code : Mode → Byte
  | .standby => 0
  | .run => 1
  | .service => 2
  | .safe => 3

/-- A phase kind's code (6.1). -/
def PhaseKind.code : PhaseKind → Byte
  | .pre => 0
  | .main => 1
  | .rinse => 2
  | .final => 3
  | .dry => 4
  | .drain => 5

/-- The phase kind of a code (6.1). -/
def PhaseKind.ofCode : Nat → Option PhaseKind
  | 0 => some .pre
  | 1 => some .main
  | 2 => some .rinse
  | 3 => some .final
  | 4 => some .dry
  | 5 => some .drain
  | _ => none

/-- The water kinds (6.1). -/
def PhaseKind.isWater : PhaseKind → Bool
  | .pre | .main | .rinse | .final => true
  | .dry | .drain => false

/-- A zone's bit in a zone mask (R101). -/
def Zone.bitIdx : Zone → Nat
  | .lower => 0
  | .upper => 1
  | .top => 2

/-- The next position in the order LOWER, UPPER, TOP, LOWER (7.3). -/
def Zone.next : Zone → Zone
  | .lower => .upper
  | .upper => .top
  | .top => .lower

/-- Whether a mask names a zone (R101). -/
def maskHas (mask : Nat) (z : Zone) : Bool := mask.testBit z.bitIdx

/-- A mask without a zone (R140). -/
def maskDrop (mask : Nat) (z : Zone) : Nat := if maskHas mask z then mask - 2 ^ z.bitIdx else mask

/-- A mask with a zone. -/
def maskAdd (mask : Nat) (z : Zone) : Nat := if maskHas mask z then mask else mask + 2 ^ z.bitIdx

/-- The first zone of a mask in the order LOWER, UPPER, TOP (R136). -/
def firstZone (mask : Nat) : Option Zone :=
  if maskHas mask .lower then some .lower
  else if maskHas mask .upper then some .upper
  else if maskHas mask .top then some .top
  else none

/-- The next zone of a mask after a zone in the cyclic order, other than the zone itself (R136). -/
def nextZone (mask : Nat) (z : Zone) : Option Zone :=
  if maskHas mask z.next then some z.next
  else if maskHas mask z.next.next then some z.next.next
  else none

/-- The zone a cam reading stands at (7.3). -/
def Cam.zone : Cam → Option Zone
  | .between => none
  | .at z => some z

/-! ## The phase record (R101, R201) -/

/-- Whether an optional field's presence bit is set (R201). -/
def RawPhase.has (r : RawPhase) (n : Nat) : Bool := r.presence.testBit n

/-- An optional field's value: absent, or the bytes' number (R201). -/
def RawPhase.opt (r : RawPhase) (n value : Nat) : Option Nat := if r.has n then some value else none

/-- An optional field lies in its range, or is absent. -/
def optIn (lo hi : Nat) : Option Nat → Bool
  | none => true
  | some n => decide (lo ≤ n ∧ n ≤ hi)

/-- The checks R101 makes of every kind, and R201's of the flag and presence bytes. -/
def RawPhase.commonOk (r : RawPhase) : Bool :=
  decide (1 ≤ r.id ∧ r.id ≤ 255) && decide (1 ≤ r.mask ∧ r.mask ≤ 7) && decide (5 ≤ r.period ∧ r.period ≤ 120) &&
  decide (1 ≤ r.speed ∧ r.speed ≤ 3) && decide (r.flags < 16) && decide (r.presence < 32)

/-- R101's checks of a water kind. -/
def RawPhase.waterOk (r : RawPhase) : Bool :=
  decide (1500 ≤ r.fill ∧ r.fill ≤ 7000) && (decide (r.temp = 0) || decide (300 ≤ r.temp ∧ r.temp ≤ 750)) &&
  decide (r.hold ≤ 3600) && optIn 300 3600 (r.opt 0 r.heatLimit) && optIn 0 600 (r.opt 1 r.detergent) &&
  optIn 0 200 (r.opt 2 r.additive) && optIn 0 100 (r.opt 3 r.rinse) && !r.flags.testBit 3 && !r.has 4

/-- R101's checks of a DRAIN or DRY kind: no water, heat, hold, heat limit, dose or soil sensing. -/
def RawPhase.dryOrDrainOk (r : RawPhase) : Bool :=
  decide (r.fill = 0) && decide (r.temp = 0) && decide (r.hold = 0) && !r.has 0 && !r.has 1 && !r.has 2 && !r.has 3 &&
  !r.flags.testBit 0

/-- R101: the record of a raw record, or none where a field is outside what its kind allows. -/
def RawPhase.check (r : RawPhase) : Option PhaseRecord :=
  match PhaseKind.ofCode r.kind with
  | none => none
  | some k =>
    let kindOk :=
      if k.isWater then r.waterOk
      else match k with
        | .dry => r.dryOrDrainOk && optIn 300 5400 (r.opt 4 r.dryOverride)
        | _ => r.dryOrDrainOk && !r.flags.testBit 3 && !r.has 4
    if r.commonOk && kindOk then
      some
        { id := r.id, kind := k, fill := r.fill, temp := r.temp, hold := r.hold, heatLimit := r.opt 0 r.heatLimit
          mask := r.mask, period := r.period, speed := r.speed, detergent := r.opt 1 r.detergent
          additive := r.opt 2 r.additive, rinse := r.opt 3 r.rinse, soilSense := r.flags.testBit 0
          drainAtEnd := r.flags.testBit 1, softRequired := r.flags.testBit 2, openDoor := r.flags.testBit 3
          dryOverride := r.opt 4 r.dryOverride }
    else none

/-- The two bytes of a record's optional field of presence bit `n` (R201); of an absent field they are free (log 18). -/
def PhaseRecord.optBytes (r : PhaseRecord) (n : Nat) : Option Nat → List Byte
  | some v => be2 v
  | none => word16 (Config.absentField r n)

/-- A phase record's 23 bytes, as GET-PHASES and GET-CONTEXT return it (R201). -/
def PhaseRecord.bytes (r : PhaseRecord) : List Byte :=
  be1 r.id ++ [r.kind.code] ++ be2 r.fill ++ be2 r.temp ++ be2 r.hold ++ r.optBytes 0 r.heatLimit ++ be1 r.mask ++
  be1 r.period ++ be1 r.speed ++ r.optBytes 1 r.detergent ++ r.optBytes 2 r.additive ++ r.optBytes 3 r.rinse ++
  [bit 0 r.soilSense ||| bit 1 r.drainAtEnd ||| bit 2 r.softRequired ||| bit 3 r.openDoor,
   bit 0 r.heatLimit.isSome ||| bit 1 r.detergent.isSome ||| bit 2 r.additive.isSome ||| bit 3 r.rinse.isSome |||
     bit 4 r.dryOverride.isSome] ++
  r.optBytes 4 r.dryOverride

end Sys2Proof.Machine
end

