-- ==== Sys2Proof/Machine/Flags.lean ====
section
/-! DEFINITION. Every figure the manual derives from others: the supply states (R63), the door class (R148), the interlocks
(R131, R135, R152), the active tests of SAFE (R184), the window test (R49), and the marks of a phase. -/

namespace Sys2Proof.Machine

/-! ## Supply -/

/-- The state of a supply entry (R63). -/
def SupplyEntry.state (e : SupplyEntry) : SupplyState :=
  if e.capOpen then .open
  else if !e.tracked then .unknown
  else if e.estimate = 0 then .empty
  else if e.estimate ≤ e.lowMark then .low
  else .ok

/-! ## Door -/

/-- The door class of the three figures it is derived from (R148). -/
def doorClassOf (doorClosed referenced : Bool) (angle : Nat) : DoorClass :=
  if doorClosed then .closed
  else if !referenced then .open
  else if angle ≤ 150 then .ajar
  else .open

/-- The door class (R148). -/
def State.doorClass (s : State) : DoorClass := doorClassOf s.dru.doorClosed s.dru.referenced s.dru.angle

/-- The door class CLOSED with the latch engaged (R105, R109, R131). -/
def State.doorShut (s : State) : Bool := decide (s.doorClass = .closed) && s.dru.latched

/-- A move of the opener runs (R150). -/
def State.openerMoves (s : State) : Bool := decide (s.dru.opener = .extending) || decide (s.dru.opener = .retracting)

/-- The direction of a count (R145): the edge's channel and direction, and the level of the other channel. -/
def edgeDirection (c : Channel) (rising other : Bool) : Direction :=
  match c with
  | .a => if rising = other then .closing else .opening
  | .b => if rising = other then .opening else .closing

/-! ## Modes and tests -/

/-- The modes in which the heater and the pump may run (R131, R135). -/
def Mode.runs : Mode → Bool
  | .run | .service => true
  | .standby | .safe => false

/-- An entry of the service test table (10.5). -/
def State.testEntry (s : State) (a : Actuator) : TestEntry := s.cdu.tests[a.idx]

/-- A test of an actuator runs (R187). -/
def State.testing (s : State) (a : Actuator) : Bool := (s.testEntry a).running

/-! ## Heat and circulation -/

/-- The circulation pump runs for the Wash Controller's demand (R135). -/
def State.circRuns (s : State) : Bool :=
  s.hcu.demand.isSome && decide (s.dru.opener = .retracted) && s.cdu.mode.runs

/-- The circulation pump runs for the pump test (R142). -/
def State.pumpTestRuns (s : State) : Bool :=
  s.testing .circPump && decide (s.dru.opener = .retracted) && decide (s.cdu.mode = .service)

/-- The speed at which the circulation pump runs, 0 while it is off: the demand's for the wash (R135), 3 for the pump test (R142).
-/
def State.pumpSpeed (s : State) : Nat :=
  if !s.hcu.pumpRuns then 0 else if s.circRuns then s.hcu.demand.getD 0 else 3

/-- The heater interlock (R131). -/
def State.heaterInterlock (s : State) : Bool :=
  s.hcu.pumpRuns && s.wpu.waterPresent && s.doorShut && decide (s.dru.opener = .retracted) && s.cdu.mode.runs

/-- The heater is active (R143). -/
def State.heaterActive (s : State) : Bool := s.hcu.heat.isSome || s.hcu.energised

/-- The pump is active (R143). -/
def State.pumpActive (s : State) : Bool := s.hcu.demand.isSome || s.hcu.pumpRuns

/-- A temperature reading is in range (R128). -/
def tempInRange (t : Int) : Bool := decide (0 ≤ t ∧ t ≤ 990)

/-- A humidity reading is in range (R162). -/
def humInRange (h : Int) : Bool := decide (0 ≤ h ∧ h ≤ 100)

/-- The power level of an error (R129): 0 for none, else the error over 5 rounded up, at most 8. -/
def powerLevel (target reading : Int) : Nat :=
  if target - reading ≤ 0 then 0 else min 8 (divUp (target - reading).toNat 5)

/-- The zone that is fed (7.3): the pump runs for the wash and the cam reads it with the motor stopped. -/
def State.fedZone (s : State) : Option Zone :=
  if s.circRuns && s.hcu.move.isNone then s.hcu.cam.zone else none

/-- The arm of a zone; the top head has none (7.4). -/
def Zone.arm : Zone → Option Arm
  | .lower => some .lower
  | .upper => some .upper
  | .top => none

/-- The arm average (R139). -/
def ArmCaptures.average (a : ArmCaptures) : Nat := (a.c0 + a.c1 + a.c2 + a.c3) / 4

/-- The heat-limit count runs (R134). -/
def State.heatCounts (s : State) : Bool :=
  match s.hcu.heat with
  | some r => decide (r.mode = .heat) && !r.reached
  | none => false

/-! ## The wash -/

/-- The active phase's kind is DRY (R49, R115). -/
def ActivePhase.isDry (a : ActivePhase) : Bool := decide (a.record.kind = .dry)

/-- The stages that keep the opener from extending (R152). -/
def Stage.isWet : Stage → Bool
  | .fill | .heat | .hold | .sense | .drain => true
  | .drying | .done => false

/-- The Wash Controller's stage is one of the wet ones (R152). -/
def State.wetStage (s : State) : Bool :=
  match s.wsc.active with
  | some a => a.stage.isWet
  | none => false

/-- The EXTEND interlock (R152). -/
def State.extendInterlock (s : State) : Bool := !s.heaterActive && !s.pumpActive && !s.wetStage

/-- The active phase carries the soft-required flag (R176). -/
def State.softRequired (s : State) : Bool :=
  match s.wsc.active with
  | some a => a.record.softRequired
  | none => false

/-- The trap enable of a condition (10.1). -/
def State.trapEnabled (s : State) (c : Condition) : Bool := decide (s.cdu.traps &&& c.mask ≠ 0)

/-- A second of HOLD is counted (R112). -/
def State.holdCounts (s : State) : Bool :=
  match s.wsc.active with
  | some a =>
    decide (s.wsc.wash = .running) && decide (a.stage = .hold) && !a.holdEnded &&
      (decide (a.target ≤ 0) ||
        (match s.hcu.heat with
         | some r => decide (r.band = some true)
         | none => false))
  | none => false

/-! ## SAFE -/

/-- The active test of a SAFE_ALWAYS condition (R184). -/
def State.activeTest (s : State) : Condition → Bool
  | .leak => s.wpu.leakWet
  | .overfill => s.wpu.overfillClosed
  | .overtemp => tempInRange s.hcu.temp && decide (800 ≤ s.hcu.temp)
  | .sensorFault => !tempInRange s.hcu.temp
  | _ => false

/-- No SAFE_ALWAYS condition's active test holds (R105). -/
def State.nothingActive (s : State) : Bool :=
  !s.activeTest .leak && !s.activeTest .overfill && !s.activeTest .overtemp && !s.activeTest .sensorFault

/-! ## Regeneration -/

/-- A regeneration run exists: it has started and has no outcome (3.2). -/
def State.runActive (s : State) : Bool :=
  match s.sfu.run with
  | some r => r.outcome.isNone
  | none => false

/-- The window is open (R49). -/
def State.windowOpen (s : State) : Window → Bool
  | .anytime => decide (s.cdu.mode ≠ .safe)
  | .quiet =>
    match s.cdu.mode with
    | .standby => true
    | .run =>
      match s.wsc.active with
      | some a => a.isDry
      | none => false
    | .service | .safe => false

/-! ## Drying -/

/-- The state of a run in which dry seconds count (R166, R168). -/
def DryState.counts : DryState → Bool
  | .ajar | .yielding | .closedDry => true
  | _ => false

/-- The run is in progress and not suspended. -/
def DryRun.live (r : DryRun) : Bool := decide (r.state ≠ .ended) && !r.suspended

/-- The drying fan runs (R174). -/
def State.fanRuns (s : State) : Bool :=
  (match s.dyc.run with
   | some r => r.fanDemand
   | none => false) || s.testing .fan

/-! ## The inlet's counts -/

/-- The fill time limit counts (R12): FILL holds the grant and the valve is open. -/
def State.fillCounts (s : State) : Bool := decide (s.wpu.grant = some .fill) && s.wpu.valveOpen

/-- The limit a code chooses, in seconds (R12). -/
def fillLimitSec : Nat → Nat
  | 0 => 60
  | 1 => 120
  | 2 => 180
  | _ => 300

/-- The fill time limit is reached (R12): it counts, and its count has come to the limit that the open record's code chooses. -/
def State.fillLimitReached (s : State) : Bool :=
  s.fillCounts &&
    match s.wpu.fillRec with
    | some r => decide (fillLimitSec r.limitCode * 1000 ≤ s.wpu.fillMs)
    | none => false

/-! ## The other counts that their expiry is tested against (log 3) -/

/-- The heat limit is reached (R134): it counts, and its count has come to the phase's heat limit. -/
def State.heatLimitReached (s : State) : Bool := s.heatCounts && decide (s.hcu.heatLimit * 1000 ≤ s.hcu.heatMs)

/-- The supervision timer runs and has come to 2.5 s (R194). -/
def State.supervisionReached (s : State) : Bool :=
  match s.lkp.supervision with
  | some ms => decide (2500 ≤ ms)
  | none => false

end Sys2Proof.Machine
end

