-- ==== Sys2Proof/Machine/Ops.lean ====
section
/-! DEFINITION. The named operations that every block shares: setting an attention source (R195), recording a condition
(R175), reading and writing the column records, the supply entries and the service test table. -/

namespace Sys2Proof.Machine

/-! ## Attention (R195) -/

/-- An owner sets a source: its pending bit is set and its summary replaced (R195). -/
def setAttention (src : Source) (sm : Summary) (s : State) : State :=
  { s with lkp := { s.lkp with sources := s.lkp.sources.set src.idx ⟨true, some sm⟩ } }

/-! ## Recording a condition (R175) -/

/-- What R175 does at every raising: cause, flag, count, and CONDITION attention with the code. The class's consequence is
`raise`'s; for a NOTE there is none, so a NOTE is raised by this alone (R176 to R178). -/
def recordCondition (c : Condition) (s : State) : State :=
  setAttention .condition (.condition c)
    { s with
      cdu := { s.cdu with
        causes := s.cdu.causes ||| c.mask
        flags := s.cdu.flags ||| c.mask
        counts := s.cdu.counts.set c.idx (satSucc 255 s.cdu.counts[c.idx]) } }

/-! ## Columns -/

/-- A column's record (2.1). -/
def State.col (s : State) : Column → ColumnRecord
  | .a => s.sfu.colA
  | .b => s.sfu.colB

/-- Writes a column's record without a notice. -/
def writeColumn (c : Column) (r : ColumnRecord) (s : State) : State :=
  match c with
  | .a => { s with sfu := { s.sfu with colA := r } }
  | .b => { s with sfu := { s.sfu with colB := r } }

/-- Writes a column's record; a change of its state sets COLUMN attention, and no other change does (R23). -/
def putColumn (c : Column) (r : ColumnRecord) (s : State) : State :=
  if r.state = (s.col c).state then writeColumn c r s
  else setAttention .column (.column c r.state) (writeColumn c r s)

/-- The IN_SERVICE column, if there is one (R25). -/
def State.inServiceColumn (s : State) : Option Column :=
  if s.sfu.colA.state = .inService then some .a
  else if s.sfu.colB.state = .inService then some .b
  else none

/-- A column is in the regeneration list (R45). -/
def State.listed (s : State) (c : Column) : Bool := s.sfu.list.any fun e => decide (e.column = c)

/-! ## Supply entries -/

/-- A supply entry (4.1). -/
def State.entry (s : State) : Entry → SupplyEntry
  | .detergent => s.spt.detergent
  | .rinseAid => s.spt.rinseAid
  | .additive => s.spt.additive
  | .salt => s.spt.salt

/-- Writes a supply entry without a notice. -/
def writeEntry (e : Entry) (r : SupplyEntry) (s : State) : State :=
  match e with
  | .detergent => { s with spt := { s.spt with detergent := r } }
  | .rinseAid => { s with spt := { s.spt with rinseAid := r } }
  | .additive => { s with spt := { s.spt with additive := r } }
  | .salt => { s with spt := { s.spt with salt := r } }

/-- Writes a supply entry; a change of its derived state sets SUPPLY attention, and no other change does (R63). -/
def putEntry (e : Entry) (r : SupplyEntry) (s : State) : State :=
  if r.state = (s.entry e).state then writeEntry e r s
  else setAttention .supply (.supply e r.state) (writeEntry e r s)

/-! ## Service tests -/

/-- Writes an entry of the service test table (R187, R188). -/
def writeTest (a : Actuator) (t : TestEntry) (s : State) : State :=
  { s with cdu := { s.cdu with tests := s.cdu.tests.set a.idx t } }

/-- A test's entry reads not running, with its outcome (R188). -/
def markTestEnded (a : Actuator) (o : TestOutcome) (s : State) : State :=
  writeTest a { s.testEntry a with running := false, outcome := some o } s

end Sys2Proof.Machine
end

