-- ==== Sys2Proof/Machine/Supply.lean ====
section
/-! DEFINITION. The Supply Table (chapter 4): decrements, cap and low-switch events, and its two requests. -/

namespace Sys2Proof.Machine

/-! ## Decrements (R65 to R67) -/

/-- A decrement of an entry (R65): a tracked estimate is lowered and clamped at 0, an untracked entry stays. -/
def decrementSupply (e : Entry) (amount : Nat) (s : State) : State :=
  let r := s.entry e
  if r.tracked then putEntry e { r with estimate := r.estimate - amount } s else s

/-- A stroke decrement: the entry's stroke volume in force when it arrives (R66). -/
def decrementStroke (a : Agent) (s : State) : State := decrementSupply a.entry (s.entry a.entry).stroke s

/-! ## Cap and low switches (R68 to R72) -/

/-- The cap settles open (R68). -/
def openCap (e : Entry) (s : State) : State := putEntry e { s.entry e with capOpen := true } s

/-- What a closing of the cap makes of an entry: a refill where the low switch reads not-low (R69), the correction of R70
where it reads low. -/
def SupplyEntry.closed (r : SupplyEntry) : SupplyEntry :=
  if r.low then
    { r with capOpen := false, estimate := if r.tracked then min r.estimate r.lowMark else r.estimate }
  else { r with capOpen := false, estimate := r.capacity, tracked := true, refills := satSucc 255 r.refills }

/-- The cap settles closed (R69, R70). -/
def closeCap (e : Entry) (s : State) : State := putEntry e (s.entry e).closed s

/-- What a low switch turning low makes of an entry (R71). -/
def SupplyEntry.turnedLow (r : SupplyEntry) : SupplyEntry :=
  if r.tracked then { r with low := true, estimate := min r.estimate r.lowMark }
  else { r with low := true, tracked := true, estimate := r.lowMark }

/-- The low switch settles low (R71). -/
def turnLow (e : Entry) (s : State) : State := putEntry e (s.entry e).turnedLow s

/-- The low switch settles not-low: the field alone is written (R72). -/
def turnNotLow (e : Entry) (s : State) : State := putEntry e { s.entry e with low := false } s

/-- CAP_OPEN: a settled change from closed to open (R64, R68). -/
def execCapOpen (e : Entry) (s : State) : Host.Outcome State Fault Refusal :=
  .next (if (s.entry e).capOpen then s else openCap e s)

/-- CAP_CLOSE: a settled change from open to closed (R64, R69, R70). -/
def execCapClose (e : Entry) (s : State) : Host.Outcome State Fault Refusal :=
  .next (if (s.entry e).capOpen then closeCap e s else s)

/-- LOW_SWITCH_LOW: a settled change from not-low to low (R64, R71). -/
def execLowSwitchLow (e : Entry) (s : State) : Host.Outcome State Fault Refusal :=
  .next (if (s.entry e).low then s else turnLow e s)

/-- LOW_SWITCH_NOT_LOW: a settled change from low to not-low (R64, R72). -/
def execLowSwitchNotLow (e : Entry) (s : State) : Host.Outcome State Fault Refusal :=
  .next (if (s.entry e).low then turnNotLow e s else s)

/-! ## SET-SUPPLY and GET-SUPPLY (R73, R74) -/

/-- The capacity range of an entry (4.1). -/
def Entry.capacityTop : Entry → Nat
  | .salt => 3000
  | _ => 10000

/-- KEEP in a two-byte field (R73). -/
def keep16 : Nat := 65535

/-- R73's steps 1 to 4: the entry a SET-SUPPLY leaves. -/
def SupplyEntry.configured (e : Entry) (r : SupplyEntry) (capacity estimate lowMark stroke : Nat) : SupplyEntry :=
  let cap := clamp 200 e.capacityTop capacity
  { r with
    capacity := cap
    estimate := if estimate = keep16 then min r.estimate cap else min estimate cap
    tracked := if estimate = keep16 then r.tracked else true
    lowMark := min lowMark cap
    stroke := if e = .salt then r.stroke else clamp 1 20 stroke }

/-- An entry as a reply gives it (R73, R74): the stroke volume is absent for SALT. -/
def SupplyEntry.report (e : Entry) (r : SupplyEntry) : SupplyReport :=
  { entry := e, capacity := r.capacity, estimate := r.estimate, lowMark := r.lowMark
    stroke := if e = .salt then none else some r.stroke
    tracked := r.tracked, state := r.state, capOpen := r.capOpen, low := r.low, refills := r.refills }

/-- SET-SUPPLY (R73). -/
def setSupplyRequest (entry capacity estimate lowMark stroke : Nat) (s : State) : State × Answer :=
  match Entry.ofCode entry with
  | none => (s, .refused .field)
  | some e =>
    let r := SupplyEntry.configured e (s.entry e) capacity estimate lowMark stroke
    (putEntry e r s, .ok (.supply (r.report e)))

/-- GET-SUPPLY (R74). -/
def getSupplyRequest (s : State) : State × Answer :=
  (s, .ok (.supplies
    [s.spt.detergent.report .detergent, s.spt.rinseAid.report .rinseAid, s.spt.additive.report .additive,
     s.spt.salt.report .salt]))

end Sys2Proof.Machine
end

