-- ==== Sys2Proof/Machine/Dosing.lean ====
section
/-! DEFINITION. The Dosing Unit's own operations (chapter 5): the dose computation, the records' states and ends, the pump
driver, suspension, drop and discard. The raisings of DOSE_SHORT and DOSE_PUMP_FAULT are the callers'. -/

namespace Sys2Proof.Machine

/-! ## The dose computation (R79 to R83) -/

/-- The volume factor (R79). -/
def volumeFactor (v vRef : Nat) : Nat := clamp 128 512 (v * 256 / vRef)

/-- A segment's figure: y0 + (y1 - y0) × (h - x0) / (x1 - x0), the division truncating toward zero (R80). -/
def onSegment (x0 y0 x1 y1 h : Nat) : Nat :=
  ((y0 : Int) + Int.tdiv (((y1 : Int) - y0) * ((h : Int) - x0)) ((x1 : Int) - x0)).toNat

/-- The hardness factor of a list of points (R80). -/
def onPoints : List (Nat × Nat) → Nat → Nat
  | [], _ => 256
  | [(_, y)], _ => y
  | (x0, y0) :: (x1, y1) :: rest, h =>
    if h ≤ x0 then y0
    else if h < x1 then onSegment x0 y0 x1 y1 h
    else onPoints ((x1, y1) :: rest) h

/-- The hardness factor (R80): the dose curve's for detergent and additive, 256 for rinse aid. -/
def hardnessFactor (a : Agent) (c : Curve) (h : Nat) : Nat :=
  match a with
  | .rinseAid => 256
  | .detergent | .additive => onPoints c.points.toList h

/-- The soil table's factor of a class (R81). -/
def SoilTable.factor (t : SoilTable) : Nat → Nat
  | 0 => t.f0
  | 1 => t.f1
  | 2 => t.f2
  | _ => t.f3

/-- The soil factor (R81): 256 for rinse aid; an unset class is taken as 1 (R78). -/
def soilFactor (a : Agent) (t : SoilTable) (cls : Option Nat) : Nat :=
  match a with
  | .rinseAid => 256
  | .detergent | .additive => t.factor (cls.getD 1)

/-- The dose of a base and three factors, rounded to nearest with a half going up (R82). -/
def doseOf (base v h s : Nat) : Nat := (base * v * h * s + 8388608) / 16777216

/-- The full stroke count (R82): at least 1 for a base above 0, at most 200. -/
def fullStrokes (base dose sv : Nat) : Nat :=
  let n := (dose + sv / 2) / sv
  let n1 := if 0 < base ∧ n = 0 then 1 else n
  min 200 n1

/-- A tracked entry's estimate is below the full dose (R83). -/
def SupplyEntry.limits (e : SupplyEntry) (full : Nat) : Bool := e.tracked && decide (e.estimate < full * e.stroke)

/-- The planned stroke count (R83). -/
def SupplyEntry.plannedFor (e : SupplyEntry) (full : Nat) : Nat :=
  if e.limits full then e.estimate / e.stroke else full

/-- The soil class of the program context (R78). -/
def State.soilClass (s : State) : Option Nat := s.wsc.ctx.bind ProgramContext.soilClass

/-- What R78 to R83 make of an agent's base and a fill record's figures, with the tables and the entry as they now stand. -/
def State.computed (s : State) (a : Agent) (phaseId base volume hardness vRef : Nat) : DoseRecord :=
  let e := s.entry a.entry
  let v := volumeFactor volume vRef
  let h := hardnessFactor a s.dsu.curve hardness
  let f := soilFactor a s.dsu.soil s.soilClass
  let d := doseOf base v h f
  let n := fullStrokes base d e.stroke
  { agent := a, phaseId := phaseId, base := base, volume := volume, hardness := hardness, vRef := vRef, v := v, h := h
    s := f, dose := d, strokeVolume := e.stroke, full := n, planned := e.plannedFor n, done := 0, misses := 0
    state := .waiting, recompute := false }

/-! ## The records -/

/-- Writes the driver's waiting list. -/
def writeLive (l : List DoseRecord) (s : State) : State := { s with dsu := { s.dsu with live := l } }

/-- The states of the waiting list while the wash runs: the front STROKING, the others WAITING (R87). -/
def servedStates : List DoseRecord → List DoseRecord
  | [] => []
  | r :: rest => { r with state := .stroking } :: rest.map fun x => { x with state := .waiting }

/-- The states of the waiting list follow the wash: served while it is RUNNING, SUSPENDED while it is HELD (R85, R87, R91). -/
def restate (s : State) : State :=
  match s.wsc.wash with
  | .running => writeLive (servedStates s.dsu.live) s
  | .held => writeLive (s.dsu.live.map fun r => { r with state := .suspended }) s
  | .idle => s

/-- Every live record becomes SUSPENDED (R91, R92). -/
def suspendDoses (s : State) : State := writeLive (s.dsu.live.map fun r => { r with state := .suspended }) s

/-- The live record of an agent. -/
def State.liveDose (s : State) (a : Agent) : Option DoseRecord := s.dsu.live.find? fun r => decide (r.agent = a)

/-- Changes the live record of an agent, in its place. -/
def editDose (a : Agent) (f : DoseRecord → DoseRecord) (s : State) : State :=
  writeLive (s.dsu.live.map fun r => if r.agent = a then f r else r) s

/-- The rinse-shortfall mark is set (R84). -/
def setShortfall (s : State) : State :=
  { s with wsc := { s.wsc with ctx := s.wsc.ctx.map fun c => { c with shortfall := true } } }

/-- A rinse-aid record that ends SHORT or FAULTED sets the rinse-shortfall mark (R84, R86). -/
def DoseRecord.marksShortfall (a : Agent) (o : DoseState) : Bool :=
  decide (a = .rinseAid) && (decide (o = .short) || decide (o = .faulted))

/-- A record ends (R86): it leaves the waiting list, DOSE attention is set, and the next record becomes the front. -/
def endDose (a : Agent) (o : DoseState) (s : State) : State :=
  match s.liveDose a with
  | none => s
  | some r =>
    let s1 := { s with dsu := { s.dsu with
      live := s.dsu.live.filter fun x => decide (x.agent ≠ a)
      ended := s.dsu.ended ++ [{ r with state := o }] } }
    let s2 := setAttention .dose (.dose a o) s1
    restate (if DoseRecord.marksShortfall a o then setShortfall s2 else s2)

/-- The end that a record's done strokes give (R86). -/
def DoseRecord.endState (r : DoseRecord) : DoseState := if r.planned = r.full then .done else .short

/-- An agent has a record of a phase, live or ended (R85). -/
def State.hasDose (s : State) (a : Agent) (phaseId : Nat) : Bool :=
  (s.dsu.live ++ s.dsu.ended).any fun r => decide (r.agent = a) && decide (r.phaseId = phaseId)

/-- The phase has ended, and its records are removed (R86, R107). -/
def removeDoses (s : State) : State := { s with dsu := { s.dsu with live := [], ended := [] } }

/-- The stroke in flight of an agent's record serves no one any more (R94). -/
def orphanStroke (a : Agent) (s : State) : State :=
  { s with
    dsu := { s.dsu with
      flight := s.dsu.flight.map fun f => if f.agent = a ∧ f.serves = .record then { f with serves := .nobody } else f } }

/-- The remaining strokes of a live record are dropped (R94): it ends SHORT. -/
def dropDose (a : Agent) (s : State) : State :=
  match s.liveDose a with
  | none => s
  | some _ =>
    endDose a .short (orphanStroke a (editDose a (fun r => { r with planned := r.done, recompute := false }) s))

/-- ABORT discards every record and cuts the drive; a sense window stays open (R94). -/
def discardDoses (s : State) : State :=
  { s with
    dsu := { s.dsu with
      live := []
      ended := []
      drive := none
      flight := s.dsu.flight.map fun f => if f.serves = .record then { f with serves := .nobody } else f } }

/-! ## The driver (R88) -/

/-- Whom the next stroke would serve (R88, R97): the front record while it is STROKING and has strokes left, or the test. -/
def State.nextStroke (s : State) : Option (Agent × FlightFor) :=
  match s.dsu.live with
  | r :: _ => if r.state = .stroking ∧ r.done < r.planned then some (r.agent, .record) else none
  | [] =>
    match s.dsu.testRec with
    | some t => if t.running ∧ t.driven < t.asked then some (t.agent, .test) else none
    | none => none

/-- A stroke may start (R88): none is in flight, and 500 ms have passed since the last drive start. -/
def State.strokeAllowed (s : State) : Bool := s.dsu.flight.isNone && decide (500 ≤ s.dsu.sinceDriveMs)

/-- The test's stroke counts are shown in its entry of the service test table (R188). -/
def countTest (f : DoseTest → DoseTest) (s : State) : State :=
  match s.dsu.testRec with
  | none => s
  | some t =>
    let t1 := f t
    let s1 := { s with dsu := { s.dsu with testRec := some t1 } }
    writeTest t.agent.actuator { s1.testEntry t.agent.actuator with driven := t1.driven, sensed := t1.sensed } s1

/-- A stroke's drive start (R88). -/
def driveStroke (a : Agent) (serves : FlightFor) (s : State) : State :=
  let s1 := { s with dsu := { s.dsu with flight := some ⟨a, serves, false⟩, drive := some a, sinceDriveMs := 0 } }
  if serves = .test then countTest (fun t => { t with driven := t.driven + 1 }) s1 else s1

/-- A sensed stroke is counted for its record, and a record at its planned count ends at once (R89). -/
def confirmDose (a : Agent) (s : State) : State :=
  let s1 := editDose a (fun r => { r with done := r.done + 1, misses := 0 }) s
  match s1.liveDose a with
  | none => s1
  | some r =>
    if r.done = r.planned then endDose a r.endState { s1 with dsu := { s1.dsu with flight := none } } else s1

/-- The first report within the sense window (R89, R66, R94, R97). -/
def confirmStroke (f : Flight) (s : State) : State :=
  let s1 := decrementStroke f.agent { s with dsu := { s.dsu with flight := some { f with sensed := true } } }
  match f.serves with
  | .record => confirmDose f.agent s1
  | .test => countTest (fun t => { t with sensed := t.sensed + 1 }) s1
  | .nobody => s1

/-! ## The dosing-pump test (R97) -/

/-- A dosing-pump test starts (R97). A stroke that is still in flight for the test before it counts in no record any more. -/
def startDoseTest (a : Agent) (strokes : Nat) (s : State) : State :=
  { s with
    dsu := { s.dsu with
      testRec := some ⟨a, strokes, 0, 0, true⟩
      flight := s.dsu.flight.map fun f => if f.serves = .test then { f with serves := .nobody } else f } }

/-- No further stroke of the test is driven (R97). -/
def stopDoseTest (s : State) : State :=
  { s with dsu := { s.dsu with testRec := s.dsu.testRec.map fun t => { t with running := false } } }

/-- The test's strokes have been driven and its last sense window has closed (R97). -/
def State.doseTestDone (s : State) : Option Agent :=
  match s.dsu.testRec with
  | some t => if t.running ∧ t.asked ≤ t.driven then some t.agent else none
  | none => none

/-! ## Tables (R95, R96) -/

/-- A list of points is a curve (R95). -/
def curveOf : List (Nat × Nat) → Option Curve
  | [p0, p1, p2, p3, p4, p5] => some ⟨#v[p0, p1, p2, p3, p4, p5]⟩
  | _ => none

/-- Strictly increasing. -/
def rising : List Nat → Bool
  | x :: y :: rest => decide (x < y) && rising (y :: rest)
  | _ => true

/-- The tests of LOAD-CURVE's figures (R95). -/
def pointsOk (ps : List (Nat × Nat)) : Bool :=
  ps.all (fun p => decide (p.1 ≤ 700) && decide (64 ≤ p.2 ∧ p.2 ≤ 1024)) && rising (ps.map Prod.fst)

/-- A dose record exists, live or ended (R95). -/
def State.dosesExist (s : State) : Bool := !(s.dsu.live ++ s.dsu.ended).isEmpty

/-- LOAD-CURVE (R95). -/
def loadCurveRequest (points : List (Nat × Nat)) (s : State) : State × Answer :=
  match curveOf points with
  | none => (s, .refused .field)
  | some c =>
    if !pointsOk points then (s, .refused .field)
    else if s.dosesExist then (s, .refused .state)
    else ({ s with dsu := { s.dsu with curve := c } }, .ok (.curve c))

/-- A list of thresholds and a list of factors are a soil table (R96). -/
def soilOf : List Nat → List Nat → Option SoilTable
  | [t1, t2, t3], [f0, f1, f2, f3] => some ⟨t1, t2, t3, f0, f1, f2, f3⟩
  | _, _ => none

/-- The tests of LOAD-SOIL's figures (R96). -/
def soilOk (thresholds factors : List Nat) : Bool :=
  thresholds.all (fun t => decide (t ≤ 1023)) && rising thresholds && factors.all fun f => decide (128 ≤ f ∧ f ≤ 1024)

/-- LOAD-SOIL (R96). -/
def loadSoilRequest (thresholds factors : List Nat) (s : State) : State × Answer :=
  match soilOf thresholds factors with
  | none => (s, .refused .field)
  | some t =>
    if !soilOk thresholds factors then (s, .refused .field)
    else if s.dosesExist then (s, .refused .state)
    else ({ s with dsu := { s.dsu with soil := t } }, .ok (.soil t))

/-- GET-DOSES (R98). -/
def getDosesRequest (s : State) : State × Answer :=
  (s, .ok (.doses s.dsu.live s.dsu.ended (s.dsu.flight.map Flight.agent) s.dsu.sinceDriveMs s.dsu.curve s.dsu.soil
    s.dsu.testRec))

end Sys2Proof.Machine
end

