-- ==== Sys2Proof/Machine/Heat.lean ====
section
/-! DEFINITION. The Heat and Circulation Unit's own operations (chapter 7): the zone state and the diverter, the pump, the heat
request, the burst windows, the arms and the soil class. None of them raises a condition; the commands do that. -/

namespace Sys2Proof.Machine

/-! ## Zones and the diverter (R136 to R138) -/

/-- The watch on a zone's arm at a feeding start (R140): a fresh grace where checking is on and the zone has an arm. -/
def State.freshWatch (s : State) (z : Zone) : ArmWatch :=
  if s.hcu.checking && z.arm.isSome then .grace 0 else .none

/-- The zone where the diverter now stands becomes the current zone: its period seconds are kept if it was it already, and are 0
otherwise (R136). It has a feeding start (R140). -/
def feedZone (z : Zone) (s : State) : State :=
  { s with
    hcu := { s.hcu with
      zone := some z
      periodMs := if s.hcu.zone = some z then s.hcu.periodMs else 0
      watch := s.freshWatch z } }

/-- A move to a zone starts with a fresh 4 s (R136, R137). -/
def startMove (z : Zone) (s : State) : State :=
  { s with hcu := { s.hcu with move := some ⟨.zone z, 0, false⟩, pendingMove := none, watch := .none } }

/-- The diverter is to feed a zone: at once where the cam reads it already, by a move otherwise (R136). -/
def goToZone (z : Zone) (s : State) : State :=
  if s.hcu.cam = .at z then feedZone z { s with hcu := { s.hcu with pendingMove := none } } else startMove z s

/-- The zone chosen when the pump starts: the target of a pending move (R138), else the current zone, else the first zone of the
effective mask (R136). -/
def State.chosenZone (s : State) : Option Zone :=
  match s.hcu.pendingMove with
  | some z => some z
  | none =>
    match s.hcu.zone with
    | some z => some z
    | none => firstZone s.hcu.mask

/-- The pump starts for a circulation request (R136). With the alternation fixed no move is made, and the zone that the cam reads
is fed (R137). A move that still runs goes on. -/
def chooseZone (s : State) : State :=
  if s.hcu.move.isSome then s
  else if s.hcu.fixed then
    match s.hcu.cam with
    | .at z => feedZone z s
    | .between => s
  else
    match s.chosenZone with
    | some z => goToZone z s
    | none => s

/-! ## The pump (R135) -/

/-- The pump follows its three needs (R135, R142): it runs or stops, a start chooses the zone, and a stop ends the feeding. -/
def refreshPump (s : State) : State :=
  let runs := s.circRuns || s.pumpTestRuns
  let s1 := { s with hcu := { s.hcu with pumpRuns := runs } }
  if runs then if s.circRuns && !s.hcu.pumpRuns then chooseZone s1 else s1
  else { s1 with hcu := { s1.hcu with watch := .none } }

/-- A circulation request at the active phase's pump speed (R135). -/
def circulate (speed : Nat) (s : State) : State :=
  refreshPump { s with hcu := { s.hcu with demand := some speed } }

/-- The heat limit of a record (R101): 1,800 s where it is absent. -/
def PhaseRecord.limit (r : PhaseRecord) : Nat := r.heatLimit.getD 1800

/-- What a phase start tells the unit (R106, R134, R135). -/
def setUpHeat (r : PhaseRecord) (s : State) : State :=
  { s with
    hcu := { s.hcu with
      heatMs := 0
      circMs := 0
      period := r.period
      heatLimit := r.limit
      mask := r.mask
      dropped := 0
      checking := true
      fixed := false
      pendingMove := none
      zone := none
      periodMs := 0
      watch := .none } }

/-- The move that a stop leaves pending (R138). -/
def HeatUnit.leftPending (h : HeatUnit) : Option Zone :=
  match h.move with
  | some ⟨.zone z, _, false⟩ => some z
  | _ => h.pendingMove

/-- A stop (R138): no heat request, no demand, no move, no classification; the zone state and a running move's target stay. -/
def stopHeat (s : State) : State :=
  refreshPump
    { s with
      hcu := { s.hcu with
        heat := none
        level := 0
        burst := .idle
        dry := .stopped
        demand := none
        pendingMove := s.hcu.leftPending
        move := none
        watch := .none
        classify := none } }

/-! ## The heater (R129 to R134) -/

/-- The power level of a reading (R129); the heater test's is 8 (R142). -/
def State.levelFor (s : State) (reading : Int) : Nat :=
  match s.hcu.heat with
  | none => 0
  | some r =>
    if !tempInRange reading then 0
    else match r.mode with
      | .test => 8
      | _ => powerLevel r.target reading

/-- A heat request comes into force in place of any other (7.2). The dry count starts where the water-present switch reads open
(R132); DESIGN CHOICE (log 43): a request that replaces one in force lets the dry count run on, since R132 does not say whether it
starts again. The power level waits for the next sample (R129). -/
def requestHeat (mode : HeatMode) (target : Int) (s : State) : State :=
  { s with
    hcu := { s.hcu with
      heat := some ⟨mode, target, false, none⟩
      dry := if s.hcu.heat.isNone && !s.wpu.waterPresent then .counting 0 else s.hcu.dry } }

/-- The heater test's request, at L = 8 from its start (R142). -/
def requestTestHeat (s : State) : State :=
  let s1 := requestHeat .test 0 s
  { s1 with hcu := { s1.hcu with level := s1.levelFor s1.hcu.temp } }

/-- The heat request ends: no power, no window and no dry count (R129, R132). -/
def endHeat (s : State) : State :=
  { s with hcu := { s.hcu with heat := none, level := 0, burst := .idle, dry := .stopped } }

/-- A new burst window: the on count is loaded with L, and its first half-cycle begins (R130). -/
def HeatUnit.newWindow (h : HeatUnit) : HeatUnit :=
  if h.level = 0 then { h with burst := .off 7, energised := false }
  else { h with burst := .on (h.level - 1) h.level, energised := true }

/-- The next half-cycle of the burst window (R130). The counts hold the half-cycles still to come after the one that begins. -/
def HeatUnit.nextHalfCycle (h : HeatUnit) : HeatUnit :=
  match h.burst with
  | .idle => if h.level = 0 then { h with energised := false } else h.newWindow
  | .on (left + 1) level => { h with burst := .on left level, energised := true }
  | .on 0 level =>
    if 8 ≤ level then h.newWindow else { h with burst := .off (7 - level), energised := false }
  | .off (left + 1) => { h with burst := .off left, energised := false }
  | .off 0 => h.newWindow

/-- A mains zero crossing (R130, R131): where the interlock fails the window is abandoned and no half-cycle is fired. -/
def crossZero (s : State) : State :=
  if s.heaterInterlock then { s with hcu := s.hcu.nextHalfCycle }
  else { s with hcu := { s.hcu with burst := .idle, energised := false } }

/-- The dry count follows the water-present switch (R132). -/
def State.dryAfterSwitch (s : State) (closed : Bool) : DryCount :=
  if closed then .stopped
  else if s.hcu.heat.isSome && decide (s.hcu.dry = .stopped) then .counting 0
  else s.hcu.dry

/-- A sample raises SENSOR_FAULT: out of range, and the sample before it was in range (R128). -/
def HeatUnit.sensorFails (h : HeatUnit) (reading : Int) : Bool :=
  !tempInRange reading && (h.noSample || tempInRange h.temp)

/-- A sample raises OVERTEMP: in range at 850 or above, and the sample before it was below 850 or out of range (R128). -/
def HeatUnit.overheats (h : HeatUnit) (reading : Int) : Bool :=
  tempInRange reading && decide (850 ≤ reading) && (h.noSample || !tempInRange h.temp || decide (h.temp < 850))

/-- A sample replaces the latest reading (R128). -/
def takeReading (reading : Int) (s : State) : State :=
  { s with hcu := { s.hcu with temp := reading, noSample := false } }

/-- The power level is computed from the latest reading (R129). -/
def computeLevel (s : State) : State := { s with hcu := { s.hcu with level := s.levelFor s.hcu.temp } }

/-- The request of HEAT mode has reached its temperature at the latest reading (R133). -/
def State.reachesTarget (s : State) : Bool :=
  match s.hcu.heat with
  | some r =>
    decide (r.mode = .heat) && !r.reached && tempInRange s.hcu.temp && decide (r.target - 5 ≤ s.hcu.temp)
  | none => false

/-- Temperature reached is reported once for each request (R133). -/
def markReached (s : State) : State :=
  { s with hcu := { s.hcu with heat := s.hcu.heat.map fun r => { r with reached := true } } }

/-- The band report of a MAINTAIN request at the latest reading (R133). -/
def reportBand (s : State) : State :=
  match s.hcu.heat with
  | some r =>
    if r.mode = .maintain then
      { s with
        hcu := { s.hcu with
          heat := some { r with band := some (tempInRange s.hcu.temp && decide (r.target - 20 ≤ s.hcu.temp)) } } }
    else s
  | none => s

/-! ## The cam (R136) -/

/-- A reading ends a move to a target (R136, R142). -/
def MoveTarget.reachedBy : MoveTarget → Cam → Bool
  | .zone z, c => decide (c = .at z)
  | .anyZone, c => c.zone.isSome

/-- The fed zone's watch where the cam changes with the motor stopped: it ends when the cam leaves the current zone, and a return
to it is a new feeding start (7.3, R140). DESIGN CHOICE (log 44): another zone that the cam comes to read so is fed by 7.3's words,
but gets no watch and stays other than the current zone, since no rule says what follows. -/
def camMoved (reading : Cam) (s : State) : State :=
  let s1 := { s with hcu := { s.hcu with cam := reading } }
  if s.hcu.cam = reading then s1
  else
    match s1.fedZone with
    | some z => if s.hcu.zone = some z then feedZone z s1 else { s1 with hcu := { s1.hcu with watch := .none } }
    | none => { s1 with hcu := { s1.hcu with watch := .none } }

/-- The cam reads the target of a move for the wash: the motor stops, and the zone becomes the current zone and is fed where the
pump runs (R136). -/
def arriveAt (z : Zone) (s : State) : State :=
  let s1 := feedZone z { s with hcu := { s.hcu with cam := .at z, move := none } }
  if s1.circRuns then s1 else { s1 with hcu := { s1.hcu with watch := .none } }

/-- The alternation goes on to the next zone of the effective mask after the fed one (R136). -/
def nextZoneMove (z : Zone) (s : State) : State :=
  match nextZone s.hcu.mask z with
  | some z' => goToZone z' s
  | none => { s with hcu := { s.hcu with periodMs := 0 } }

/-- DIVERTER_FAULT's default action (R137): the alternation is fixed at the zone that the cam reads. -/
def fixAlternation (s : State) : State :=
  let s1 := { s with hcu := { s.hcu with fixed := true, pendingMove := none } }
  match s1.hcu.cam with
  | .at z =>
    let s2 := feedZone z s1
    if s1.circRuns then s2 else { s2 with hcu := { s2.hcu with watch := .none } }
  | .between => { s1 with hcu := { s1.hcu with checking := false, watch := .none } }

/-- ARM_STALLED's default action for the fed zone (R140). -/
def dropZone (z : Zone) (s : State) : State :=
  if !s.hcu.fixed && (nextZone s.hcu.mask z).isSome then
    let s1 := { s with hcu := { s.hcu with mask := maskDrop s.hcu.mask z, dropped := maskAdd s.hcu.dropped z } }
    if s1.fedZone = some z then nextZoneMove z s1 else s1
  else { s with hcu := { s.hcu with checking := false, watch := .none } }

/-! ## The arms (R139, R140) -/

/-- An arm's captures. -/
def State.arm (s : State) : Arm → ArmCaptures
  | .lower => s.hcu.lowerArm
  | .upper => s.hcu.upperArm

/-- A pulse's capture: the time since the arm's last pulse, at most 65,535, and 65,535 for a first pulse (R139). -/
def ArmCaptures.capture (a : ArmCaptures) : ArmCaptures :=
  { c0 := a.c1, c1 := a.c2, c2 := a.c3
    c3 := match a.sinceMs with
      | some t => min t 65535
      | none => 65535
    sinceMs := some 0 }

/-- The gap of the watched arm starts again from a pulse (R140). -/
def ArmWatch.pulsed : ArmWatch → ArmWatch
  | .watching _ => .watching 0
  | w => w

/-- An arm's pulse (R139, R140). -/
def pulseArm (a : Arm) (s : State) : State :=
  let s1 := match a with
    | .lower => { s with hcu := { s.hcu with lowerArm := s.hcu.lowerArm.capture } }
    | .upper => { s with hcu := { s.hcu with upperArm := s.hcu.upperArm.capture } }
  if (s.fedZone.bind Zone.arm) = some a then { s1 with hcu := { s1.hcu with watch := s.hcu.watch.pulsed } } else s1

/-! ## Soil (R141) -/

/-- The class of a mean by the soil table's thresholds (R141). -/
def SoilTable.classOf (t : SoilTable) (mean : Nat) : Nat :=
  if mean < t.t1 then 0 else if mean < t.t2 then 1 else if mean < t.t3 then 2 else 3

/-- A soil classification is asked for (R113, R141). -/
def askClass (s : State) : State := { s with hcu := { s.hcu with classify := some [] } }

/-- The eight readings give the mean and the class, which goes into the program context (R141). -/
def writeClass (readings : List Nat) (s : State) : State :=
  let mean := readings.sum / 8
  let cls := s.dsu.soil.classOf mean
  { s with
    hcu := { s.hcu with classify := none, lastMean := mean, lastClass := some cls }
    wsc := { s.wsc with ctx := s.wsc.ctx.map fun c => { c with soilClass := some cls } } }

end Sys2Proof.Machine
end

