-- ==== Sys2Proof/Machine/Door.lean ====
section
/-! DEFINITION. The Door Unit's own operations (chapter 8): the hinge count, the opener's commands and the ends of its moves. The
reports to the Wash Controller and the Drying Controller are the callers'. -/

namespace Sys2Proof.Machine

/-! ## The hinge (R145 to R147) -/

/-- The angle after a count (R145): clamped to 0 to 1,023, and held at 0 while the door-closed switch reads closed (R147). -/
def countedAngle (doorClosed : Bool) (d : Direction) (angle : Nat) : Nat :=
  if doorClosed then 0
  else match d with
    | .opening => min 1023 (angle + 1)
    | .closing => angle - 1

/-- The direction-change count after a count (R146). -/
def countedChanges (held : Option Direction) (d : Direction) (changes : Nat) : Nat :=
  match held with
  | none => changes
  | some d0 => if d0 = d then changes else satSucc 255 changes

/-- A count of the hinge (R145, R146). -/
def countHinge (d : Direction) (s : State) : State :=
  { s with
    dru := { s.dru with
      angle := countedAngle s.dru.doorClosed d s.dru.angle
      changes := countedChanges s.dru.direction d s.dru.changes
      direction := some d } }

/-- The level of the other channel when an edge is taken (R145). -/
def State.otherLevel (s : State) : Channel → Bool
  | .a => s.dru.encB
  | .b => s.dru.encA

/-- A channel's level after its edge. -/
def setLevel (c : Channel) (rising : Bool) (s : State) : State :=
  match c with
  | .a => { s with dru := { s.dru with encA := rising } }
  | .b => { s with dru := { s.dru with encB := rising } }

/-- An edge of a channel is one count, with its direction by the table of R145. -/
def takeEdge (c : Channel) (rising : Bool) (s : State) : State :=
  setLevel c rising (countHinge (edgeDirection c rising (s.otherLevel c)) s)

/-- A settled change of the door-closed switch (R147). -/
def settleDoor (closed : Bool) (s : State) : State :=
  { s with
    dru := { s.dru with doorClosed := closed, angle := 0, referenced := s.dru.referenced || closed } }

/-- DOOR attention with the class and the latch reading (R148, R149). -/
def noticeDoor (s : State) : State := setAttention .door (.door s.doorClass s.dru.latched) s

/-! ## The ends of a move (R156) -/

/-- The issuer's report of a move's end (R156): attention for HOST and TEST, the test's entry for TEST. The report to the Drying
Controller is the caller's. -/
def reportMove (o : MoveOutcome) (s : State) : State :=
  match s.dru.issuer with
  | .host =>
    let s1 := setAttention .opener (.opener s.dru.commanded o) s
    if o = .fault then recordCondition .openerFault s1 else s1
  | .dry => if o = .fault then recordCondition .openerFault s else s
  | .test =>
    let t := s.testEntry .opener
    let t1 : TestEntry :=
      if t.running then { t with running := false, rod := some s.dru.opener, outcome := some .completed }
      else { t with rod := some s.dru.opener }
    writeTest .opener t1 (setAttention .opener (.opener s.dru.commanded o) s)

/-- A move ends (R156): motor and solenoid off, the state written, the last completion kept, and the end reported. The pump
follows the opener (R135). -/
def endMove (st : OpenerState) (o : MoveOutcome) (s : State) : State :=
  refreshPump
    (reportMove o
      { s with
        dru := { s.dru with
          opener := st
          phase := none
          motor := none
          solenoid := false
          last := some ⟨s.dru.commanded, s.dru.issuer, o⟩ } })

/-- A move is stopped where the rod stands (R157); without a move nothing changes. -/
def stopMove (s : State) : State := if s.openerMoves then endMove .unknownPosition .stopped s else s

/-! ## The commands (R151 to R155) -/

/-- Driving out begins (R154). The second part says that the move has ended DONE at once. -/
def driveOut (s : State) : State × Bool :=
  let s1 := { s with dru := { s.dru with phase := some .driving, moveMs := 0 } }
  if s.dru.endExtended then (endMove .extended .done s1, true)
  else ({ s1 with dru := { s1.dru with motor := some .extend } }, false)

/-- Driving in begins (R155). The second part says that the move has ended DONE at once. -/
def driveIn (s : State) : State × Bool :=
  let s1 := { s with dru := { s.dru with phase := some .driving, moveMs := 0 } }
  if s.dru.endRetracted then (endMove .retracted .done s1, true)
  else ({ s1 with dru := { s1.dru with motor := some .retract } }, false)

/-- An accepted EXTEND (R153): a release pulse for an engaged latch, or the drive at once. -/
def beginExtend (s : State) : State × Bool :=
  let s1 := refreshPump { s with dru := { s.dru with opener := .extending } }
  if s.dru.latched then
    ({ s1 with dru := { s1.dru with phase := some .releasing, moveMs := 0, solenoid := true, pulseMs := 0 } }, false)
  else driveOut s1

/-- An accepted RETRACT (R155). -/
def beginRetract (s : State) : State × Bool := driveIn { s with dru := { s.dru with opener := .retracting } }

/-- A command fits the opener state (R151, test 4). -/
def OpenerState.takes : OpenerState → OpenerCmd → Bool
  | .retracted, .extend => true
  | .extended, .retract => true
  | .fault, .retract => true
  | .unknownPosition, .retract => true
  | _, _ => false

/-- R151's tests 2 to 5. -/
def State.openerAccepts (s : State) (by_ : Issuer) (cmd : OpenerCmd) : Bool :=
  decide (s.cdu.mode ≠ .safe) &&
  !(decide (by_ = .host) && (decide (s.cdu.mode = .service) || s.dru.dryHold)) &&
  s.dru.opener.takes cmd &&
  (decide (cmd = .retract) || s.extendInterlock)

/-- A command to move the opener (R151). -/
def commandOpener (by_ : Issuer) (cmd : OpenerCmd) (s : State) : State × CmdAnswer :=
  if s.openerMoves then (s, .busy)
  else if !s.openerAccepts by_ cmd then (s, .state)
  else
    let s1 := { s with dru := { s.dru with commanded := cmd, issuer := by_ } }
    let (s2, ended) := match cmd with
      | .extend => beginExtend s1
      | .retract => beginRetract s1
    (s2, if ended then .ended else .accepted)

/-- OPENER (R151). -/
def openerRequest (position : Nat) (s : State) : State × Answer :=
  match OpenerCmd.ofCode position with
  | none => (s, .refused .field)
  | some cmd =>
    match commandOpener .host cmd s with
    | (_, .busy) => (s, .refused .busy)
    | (_, .state) => (s, .refused .state)
    | (s1, _) => (s1, .ok (.opener s1.dru.opener s1.dru.commanded))

/-- GET-DOOR (R159). -/
def getDoorRequest (s : State) : State × Answer :=
  let d := s.dru
  (s, .ok (.door d.angle d.referenced d.direction d.changes s.doorClass d.doorClosed d.latched d.endRetracted d.endExtended
    d.opener d.commanded d.issuer (d.phase.map fun p => (p, d.moveMs)) d.dryHold d.last))

end Sys2Proof.Machine
end

