-- ==== Sys2Proof/Machine/Dry.lean ====
section
/-! DEFINITION. The Drying Controller (chapter 9). An operation that can end the run answers with a state and a Bool: true says
that the run has ended and reports its end to the Wash Controller (R170), which is the caller's to take. -/

namespace Sys2Proof.Machine

/-! ## The record -/

/-- Writes the run record. -/
def writeDry (r : DryRun) (s : State) : State := { s with dyc := { s.dyc with run := some r } }

/-- Changes the run record, where there is one. -/
def editDry (f : DryRun → DryRun) (s : State) : State := { s with dyc := { s.dyc with run := s.dyc.run.map f } }

/-- The run enters a state: its seconds in state start at 0 and, where dry seconds do not count in it, its humidity-low seconds are
0 (R162). -/
def DryRun.enter (r : DryRun) (st : DryState) : DryRun :=
  { r with state := st, stateMs := 0, humLow := if st.counts then r.humLow else 0 }

/-- The opener is EXTENDED. -/
def State.rodOut (s : State) : Bool := decide (s.dru.opener = .extended)

/-! ## The end of a run (R170) -/

/-- R170's steps 1 to 4. The report of step 5 is the caller's. -/
def endDry (o : DryOutcome) (s : State) : State :=
  let s1 := editDry (fun r => { r.enter .ended with
    fanDemand := false, outstanding := none, pendingEnd := none, humLow := 0, outcome := some o }) s
  setAttention .dry (.dry o) { s1 with dru := { s1.dru with dryHold := false } }

/-- The run ends, and its end is reported (R170). -/
def dryEnds (o : DryOutcome) (s : State) : State × Bool := (endDry o s, true)

/-- The run goes on. -/
def dryGoesOn (s : State) : State × Bool := (s, false)

/-! ## Commands (R164) -/

/-- How a command issued by the run stands after the Door Unit's answer (R164). -/
inductive Issued where
  /-- The command is outstanding, WANTED or MOVING. -/
  | outstanding
  /-- The move has ended DONE, or the rod was already in. -/
  | done
  /-- Refused STATE in a way that is handed to the rule of the run's state. -/
  | refused
deriving DecidableEq, Repr

/-- The outstanding command is written. -/
def setOutstanding (o : Option Outstanding) (s : State) : State := editDry (fun r => { r with outstanding := o }) s

/-- A command is issued to the Door Unit with issuer DRY, and the answer taken (R164). -/
def issueDry (cmd : OpenerCmd) (s : State) : State × Issued :=
  match commandOpener .dry cmd s with
  | (s1, .accepted) => (setOutstanding (some ⟨cmd, true⟩) s1, .outstanding)
  | (s1, .ended) => (setOutstanding none s1, .done)
  | (_, .busy) => (setOutstanding (some ⟨cmd, false⟩) s, .outstanding)
  | (_, .state) =>
    if s.cdu.mode = .safe then (setOutstanding (some ⟨cmd, false⟩) s, .outstanding)
    else if cmd = .retract ∧ s.dru.opener = .retracted then (setOutstanding none s, .done)
    else (setOutstanding none s, .refused)

/-- The run wants a RETRACT and then ends without waiting for it (R167). -/
def retractAndEnd (o : DryOutcome) (s : State) : State × Bool :=
  dryEnds o (if s.rodOut then (issueDry .retract s).1 else s)

/-! ## The door class (R167) -/

/-- The tests of the door class in AJAR (R167). -/
def classInAjar (cls : DoorClass) (s : State) : State × Bool :=
  match cls with
  | .ajar => dryGoesOn s
  | .open => retractAndEnd .userOpened (editDry (fun r => { r with fanDemand := false }) s)
  | .closed => retractAndEnd .userClosed s

/-- AJAR is entered with the rest angle at the present angle, the fan on if enabled, and the class tested (R165, R167). -/
def enterAjar (s : State) : State × Bool :=
  let s1 := editDry (fun r => { r.enter .ajar with rest := some s.dru.angle, fanDemand := r.settings.fan }) s
  classInAjar s1.doorClass s1

/-! ## OPENING and the fallback (R165, R169) -/

/-- The run has dried for its dry time (R166, R169). -/
def DryRun.dried (r : DryRun) : Bool := decide (r.dryTime * 1000 ≤ r.dryMs)

/-- An OPEN run falls back to CLOSED drying (R169). A run that owes no more seconds ends DEGRADED at once. -/
def fallBack (s : State) : State × Bool :=
  let s1 := editDry (fun r => { r.enter .closedDry with
    degraded := true, outstanding := none, fanDemand := r.settings.fan }) s
  match s1.dyc.run with
  | some r => if r.dried then dryEnds .degraded s1 else dryGoesOn s1
  | none => dryGoesOn s1

/-- The run in OPENING wants EXTEND (R165). -/
def wantExtend (s : State) : State × Bool :=
  match issueDry .extend s with
  | (s1, .outstanding) => dryGoesOn s1
  | (s1, .done) => enterAjar s1
  | (s1, .refused) => fallBack s1

/-- The run in OPENING wants RETRACT first; EXTEND follows its DONE end (R165). -/
def wantRetractFirst (s : State) : State × Bool :=
  match issueDry .retract s with
  | (s1, .done) => wantExtend s1
  | (s1, _) => dryGoesOn s1

/-- OPENING is entered (R165). -/
def enterOpening (s : State) : State × Bool :=
  let s1 := editDry (fun r => r.enter .opening) s
  if s1.dru.opener = .retracted then wantExtend s1 else wantRetractFirst s1

/-! ## YIELDING and ENDING (R166, R168) -/

/-- YIELDING is entered, and the run wants RETRACT (R168). -/
def enterYielding (s : State) : State × Bool :=
  dryGoesOn (issueDry .retract (editDry (fun r => r.enter .yielding) s)).1

/-- The run in ENDING wants RETRACT; an end DONE ends the run DONE (R166). -/
def retractInEnding (s : State) : State × Bool :=
  match issueDry .retract s with
  | (s1, .done) => dryEnds .done s1
  | (s1, _) => dryGoesOn s1

/-- ENDING is entered with the fan off (R166). -/
def enterEnding (s : State) : State := editDry (fun r => { r.enter .ending with fanDemand := false }) s

/-- The drying ends (R166, R169). In AJAR with a rod that is not EXTENDED and no user-opened mark, the run wants RETRACT too
(log 17). -/
def dryingEnds (s : State) : State × Bool :=
  match s.dyc.run with
  | none => dryGoesOn s
  | some r =>
    match r.state with
    | .ajar => if !s.rodOut && r.userOpened then dryEnds .userOpened s else retractInEnding (enterEnding s)
    | .yielding => if r.outstanding.isSome then dryGoesOn (enterEnding s) else dryEnds .done s
    | .closedDry => dryEnds (if r.degraded then .degraded else .done) s
    | _ => dryGoesOn s

/-! ## Move ends (R164) -/

/-- The rule of the run's state for a move's end DONE or FAULT (R165, R166, R168). -/
def takeMoveEnd (cmd : OpenerCmd) (o : MoveOutcome) (s : State) : State × Bool :=
  match s.dyc.run with
  | none => dryGoesOn s
  | some r =>
    match r.state with
    | .opening =>
      if o = .fault then fallBack s
      else match cmd with
        | .extend => enterAjar s
        | .retract => wantExtend s
    | .yielding => if o = .fault then fallBack s else dryGoesOn s
    | .ending => dryEnds (if o = .fault then .degraded else .done) s
    | _ => dryGoesOn s

/-- The end of a DRY move reaches the run (R164, R170, R171). DESIGN CHOICE (log 45): of the EXTEND that an aborted run keeps, a
STOPPED end is not kept as the pending end; the command is only removed. -/
def dryMoveEnded (cmd : OpenerCmd) (o : MoveOutcome) (s : State) : State × Bool :=
  match s.dyc.run with
  | none => dryGoesOn s
  | some r =>
    if r.outstanding.isNone then dryGoesOn s
    else
      let s1 := setOutstanding none s
      if r.state = .ended then
        dryGoesOn (if cmd = .extend ∧ o = .done then (commandOpener .dry .retract s1).1 else s1)
      else if r.suspended ∨ o = .stopped then
        dryGoesOn (editDry (fun x => { x with pendingEnd := some ⟨cmd, o⟩ }) s1)
      else takeMoveEnd cmd o s1

/-- A WANTED command is issued again (R164, R172). -/
def reissue (s : State) : State × Bool :=
  match s.dyc.run with
  | none => dryGoesOn s
  | some r =>
    match r.outstanding with
    | some ⟨cmd, false⟩ =>
      if !r.live then dryGoesOn s
      else
        match r.state with
        | .opening =>
          match cmd with
          | .extend => wantExtend s
          | .retract => wantRetractFirst s
        | .ending => retractInEnding s
        | .yielding => dryGoesOn (issueDry cmd s).1
        | _ => dryGoesOn s
    | _ => dryGoesOn s

/-! ## Door reports (R167, R168) -/

/-- The tests of the door class as it stands (R167). A suspended run takes none (R171). -/
def classTest (s : State) : State × Bool :=
  match s.dyc.run with
  | none => dryGoesOn s
  | some r =>
    if !r.live then dryGoesOn s
    else
      match r.state, s.doorClass with
      | .cooling, .ajar => enterAjar (editDry (fun x => { x with userOpened := true }) s)
      | .cooling, .open => dryEnds .userOpened s
      | .ajar, cls => classInAjar cls s
      | .yielding, .open => dryEnds .userOpened s
      | .yielding, .closed => dryEnds .userClosed s
      | .closedDry, .open => dryEnds .userOpened s
      | _, _ => dryGoesOn s

/-- The push test (R168). -/
def pushTest (s : State) : State × Bool :=
  match s.dyc.run with
  | none => dryGoesOn s
  | some r =>
    if r.live && decide (r.state = .ajar) && s.rodOut &&
        (match r.rest with
         | some a => decide (s.dru.angle + 20 ≤ a)
         | none => false) then enterYielding s
    else dryGoesOn s

/-- What follows where the run has not ended. -/
def ifGoesOn (p : State × Bool) (f : State → State × Bool) : State × Bool := if p.2 then p else f p.1

/-! ## Start, suspension, resumption, abort (R161, R170 to R172) -/

/-- The rinse-shortfall mark of the program context (R161). -/
def State.shortfall (s : State) : Bool :=
  match s.wsc.ctx with
  | some c => c.shortfall
  | none => false

/-- The run record of a start (R161). -/
def State.newDryRun (s : State) (p : PhaseRecord) : DryRun :=
  let base := p.dryOverride.getD s.dyc.settings.dryTime
  { kind := if p.openDoor then .open else .closed
    state := if p.openDoor then .cooling else .closedDry
    stateMs := 0
    dryTime := if s.shortfall then base + base / 4 else base
    extended := s.shortfall
    dryMs := 0
    humLow := 0
    rest := none
    userOpened := false
    degraded := false
    outstanding := none
    pendingEnd := none
    suspended := false
    fanDemand := if p.openDoor then false else s.dyc.settings.fan
    settings := s.dyc.settings
    outcome := none }

/-- A drying run starts (R161), and meets the door class as it stands (R167). -/
def startDry (p : PhaseRecord) (s : State) : State × Bool :=
  let s1 := writeDry (s.newDryRun p) s
  classTest { s1 with dru := { s1.dru with dryHold := true } }

/-- The hold of a DRY phase suspends the run (R171). -/
def suspendDry (s : State) : State :=
  editDry (fun r => if r.live then { r with suspended := true, fanDemand := false, humLow := 0 } else r) s

/-- R172's step 2: the pending end is taken as if it had just arrived. -/
def takePendingEnd (s : State) : State × Bool :=
  match s.dyc.run with
  | none => dryGoesOn s
  | some r =>
    match r.pendingEnd with
    | none => dryGoesOn s
    | some e =>
      let s1 := editDry (fun x => { x with pendingEnd := none, outstanding := none }) s
      if e.outcome = .stopped then dryGoesOn s1 else takeMoveEnd e.cmd e.outcome s1

/-- R172's step 3: a rod in UNKNOWN_POSITION is to be drawn in. -/
def wantKnownRod (s : State) : State × Bool :=
  dryGoesOn
    (editDry (fun r =>
      if s.dru.opener = .unknownPosition ∧ (r.state = .opening ∨ r.state = .yielding ∨ r.state = .ending) then
        { r with outstanding := some ⟨.retract, false⟩ }
      else r) s)

/-- R172's step 6: the fan demand is on again in the states that dry. -/
def restartFan (s : State) : State × Bool :=
  dryGoesOn (editDry (fun r => if r.state.counts then { r with fanDemand := r.settings.fan } else r) s)

/-- The run is resumed (R172). -/
def resumeDry (s : State) : State × Bool :=
  let s1 := editDry (fun r => { r with suspended := false }) s
  ifGoesOn (ifGoesOn (ifGoesOn (ifGoesOn (ifGoesOn (takePendingEnd s1) wantKnownRod) reissue) classTest) pushTest) restartFan

/-- The command that an aborted run keeps: an EXTEND that is MOVING (R170). -/
def DryRun.keptAtAbort (r : DryRun) : Option Outstanding :=
  if r.outstanding = some ⟨.extend, true⟩ then r.outstanding else none

/-- The program is aborted (R170, R124): the rod is drawn in where it is out, and the run ends ABORTED without attention. -/
def abortDry (s : State) : State :=
  match s.dyc.run with
  | none => s
  | some r =>
    if r.state = .ended then s
    else
      let s1 := if s.rodOut then (commandOpener .dry .retract s).1 else s
      let s2 := editDry (fun x => { x.enter .ended with
        fanDemand := false, outstanding := r.keptAtAbort, pendingEnd := none, suspended := false, humLow := 0
        outcome := some .aborted }) s1
      { s2 with dru := { s2.dru with dryHold := false } }

/-! ## The cabinet sensor (R162, R163) -/

/-- Dry seconds count (R166). -/
def DryRun.counting (r : DryRun) : Bool := r.live && r.state.counts

/-- The humidity-low seconds after a sample (R162). -/
def DryRun.sampled (r : DryRun) (humidity : Int) : DryRun :=
  if r.counting then
    { r with humLow :=
        if humInRange humidity ∧ humidity ≤ r.settings.humidity then satSucc 60 r.humLow else 0 }
  else r

/-- COOLING ends at this temperature (R162, R163). A sample taken while the run is suspended ends nothing (log 37). -/
def DryRun.coolEnough (r : DryRun) (temp : Int) : Bool :=
  r.live && decide (r.state = .cooling) && decide (r.settings.openDelay * 1000 ≤ r.stateMs) && tempInRange temp &&
    decide (temp ≤ r.settings.openTemp)

/-- The humidity end of AJAR and YIELDING (R166): 600 dry seconds and 60 humidity-low seconds. -/
def DryRun.airDry (r : DryRun) : Bool :=
  r.live && (decide (r.state = .ajar) || decide (r.state = .yielding)) && decide (600000 ≤ r.dryMs) && decide (60 ≤ r.humLow)

/-- A cabinet sample (R162, R163, R166). -/
def sampleCabinet (temp humidity : Int) (s : State) : State × Bool :=
  let s1 := editDry (fun r => r.sampled humidity) { s with dyc := { s.dyc with cabTemp := temp, cabHum := humidity } }
  match s1.dyc.run with
  | none => dryGoesOn s1
  | some r =>
    if r.coolEnough temp then enterOpening s1
    else if r.airDry then dryingEnds s1
    else dryGoesOn s1

/-! ## SET-DRY (R173) -/

/-- SET-DRY (R173). -/
def setDryRequest (openDelay openTemp dryTime humidity fan : Nat) (s : State) : State × Answer :=
  if 1 < fan then (s, .refused .field)
  else
    let w : DrySettings :=
      ⟨clamp 0 900 openDelay, clamp 300 700 openTemp, clamp 300 5400 dryTime, clamp 20 90 humidity, decide (fan = 1)⟩
    ({ s with dyc := { s.dyc with settings := w } }, .ok (.dry w))

end Sys2Proof.Machine
end

