-- ==== Sys2Proof/Machine/Softener.lean ====
section
/-! DEFINITION. The Softener Unit (chapters 2 and 3) and the part of the inlet's arbiter that gives the grant to REGEN and TEST:
claims, grants and stages of a regeneration run, column selection, blending, charging and breakthrough. -/

namespace Sys2Proof.Machine

/-! ## The inlet: grants without a fill (R1, R2, R32) -/

/-- The grant is given to a claimant, and the unattributed window is cleared (R1, R2). -/
def giveGrant (c : Claimant) (s : State) : State := { s with wpu := { s.wpu with grant := some c, window := 0 } }

/-- The valve closes and the inlet is free (R2). -/
def freeInlet (s : State) : State := { s with wpu := { s.wpu with grant := none, valveOpen := false } }

/-- A column with a host hold pending becomes HELD (R39). -/
def takePendingHold (c : Column) (s : State) : State :=
  let r := s.col c
  if r.holdPending then putColumn c { r with state := .held, holdReason := some .host, holdPending := false } s else s

/-- The end of the FILL grant at the columns (R32): both valves close and pending holds take effect. -/
def endFillGrant (s : State) : State :=
  takePendingHold .b (takePendingHold .a { s with sfu := { s.sfu with blendValve := false, selector := none } })

/-! ## The run record -/

/-- Writes the run record. -/
def writeRun (r : RunRecord) (s : State) : State := { s with sfu := { s.sfu with run := some r } }

/-- The valves of a stage close (R52, R53, R56, R57). -/
def closeStageValves (s : State) : State :=
  { s with sfu := { s.sfu with brineValve := false, restrictor := false, selector := none } }

/-- The pulses that deliver a volume at a flow factor: mL × K / 1,000, rounded up (R8, R51, R54). -/
def pulsesFor (mL k : Nat) : Nat := divUp (mL * k) 1000

/-- The volume of pulses at a flow factor, rounded down (R10, R52). -/
def volumeOf (pulses k : Nat) : Nat := pulses * 1000 / k

/-- What BRINE does at its beginning (R51). -/
def beginBrine (r : RunRecord) (k : Nat) (s : State) : State :=
  let s1 := putColumn r.column { s.col r.column with state := .regenerating, remaining := 0 } s
  let empty := decide (s1.spt.salt.state = .empty)
  let s2 := if empty then recordCondition .saltEmpty s1 else s1
  writeRun
    { r with stage := .running .brine, stageK := some k, stagePulses := some 0, stageMs := 0
             targetPulses := some (pulsesFor r.brine k), saltEmpty := r.saltEmpty || empty }
    { s2 with sfu := { s2.sfu with brineValve := true } }

/-- What SLOW_RINSE does at its beginning (R53). -/
def beginSlow (r : RunRecord) (k : Nat) (s : State) : State :=
  writeRun
    { r with stage := .running .slowRinse, stageK := some k, stagePulses := some 0, stageMs := 0, targetPulses := none }
    { s with sfu := { s.sfu with restrictor := true } }

/-- What FAST_RINSE does at its beginning (R54). -/
def beginFast (r : RunRecord) (k : Nat) (s : State) : State :=
  writeRun
    { r with stage := .running .fastRinse, stageK := some k, stagePulses := some 0, stageMs := 0
             targetPulses := some (pulsesFor r.fast k) }
    s

/-- An awaited stage begins at its grant (R50): the selector is set, the inlet opens, and the stage's own actions follow. -/
def beginStage (st : RegenStage) (s : State) : State :=
  match s.sfu.run with
  | none => s
  | some r =>
    let s1 := { s with
      sfu := { s.sfu with blendValve := false, selector := some r.column }
      wpu := { s.wpu with valveOpen := true } }
    match st with
    | .brine => beginBrine r s.wpu.settings.k s1
    | .slowRinse => beginSlow r s.wpu.settings.k s1
    | .fastRinse => beginFast r s.wpu.settings.k s1

/-- The inlet has just become free and no fill waits: REGEN is served before TEST (R2). -/
def passOnNoFill (s : State) : State :=
  match s.wpu.waitRegen with
  | some st => beginStage st (giveGrant .regen { s with wpu := { s.wpu with waitRegen := none } })
  | none =>
    match s.wpu.waitTest with
    | some _ =>
      let s1 := giveGrant .test { s with wpu := { s.wpu with waitTest := none } }
      { s1 with wpu := { s1.wpu with valveOpen := true } }
    | none => s

/-- Salt charged from the brine drawn (R52): mL × 3 / 10, rounded down. -/
def saltFor (mL : Nat) : Nat := mL * 3 / 10

/-- The salt of a BRINE stage is computed and sent to SALT (R52, R56, R57). -/
def chargeSalt (s : State) : State :=
  match s.sfu.run with
  | none => s
  | some r =>
    let mL := volumeOf (r.stagePulses.getD 0) (r.stageK.getD 0)
    decrementSupply .salt (saltFor mL) (writeRun { r with brineMl := some mL, salt := some (saltFor mL) } s)

/-- A run ends with an outcome, and REGEN attention is set (R60). -/
def endRun (o : RunOutcome) (s : State) : State :=
  match s.sfu.run with
  | none => s
  | some r => setAttention .regen (.regen r.column o) (writeRun { r with outcome := some o } s)

/-- The head of the list leaves it (R45). -/
def dropHead (s : State) : State := { s with sfu := { s.sfu with list := s.sfu.list.tail } }

/-- The head's restart mark is set (R57). -/
def markRestart (s : State) : State :=
  match s.sfu.list with
  | [] => s
  | e :: rest => { s with sfu := { s.sfu with list := { e with restart := true } :: rest } }

/-- The run is past WAIT_WINDOW and has no outcome. -/
def State.runPastWindow (s : State) : Bool :=
  match s.sfu.run with
  | some r => r.outcome.isNone && decide (r.stage ≠ .waitWindow)
  | none => false

/-- The run stands in a running stage. -/
def State.runIn (s : State) (st : RegenStage) : Bool :=
  match s.sfu.run with
  | some r => r.outcome.isNone && decide (r.stage = .running st)
  | none => false

/-- A REGENERATING column is EXHAUSTED with remaining 0 after an abort (R57). -/
def exhaustAborted (c : Column) (s : State) : State :=
  let r := s.col c
  if r.state = .regenerating then putColumn c { r with state := .exhausted, remaining := 0 } s else s

/-- The abort of a run that has left WAIT_WINDOW (R57). The grant is revoked or cleared by its caller. -/
def abortRun (s : State) : State :=
  match s.sfu.run with
  | none => s
  | some r =>
    if s.runPastWindow then
      let s1 := closeStageValves s
      let s2 := if s.runIn .brine then chargeSalt s1 else s1
      endRun .aborted (markRestart (exhaustAborted r.column s2))
    else s

/-- The run goes to WAIT_INLET and claims the inlet for a stage (R50, R1). -/
def waitInlet (st : RegenStage) (s : State) : State :=
  match s.sfu.run with
  | none => s
  | some r =>
    let s1 := writeRun { r with stage := .waitInlet st, stageMs := 0, targetPulses := none } s
    if s1.wpu.inhibit then abortRun s1
    else
      match s1.wpu.grant with
      | none => beginStage st (giveGrant .regen s1)
      | some .regen => beginStage st s1
      | some _ => { s1 with wpu := { s1.wpu with waitRegen := some st } }

/-- The window test of a run in WAIT_WINDOW (R49). -/
def windowTest (s : State) : State :=
  match s.sfu.run with
  | none => s
  | some r =>
    if r.outcome.isNone && decide (r.stage = .waitWindow) && s.windowOpen r.window then waitInlet .brine s else s

/-- The record of a new run for a list entry (R48). -/
def RunRecord.fresh (e : RegenEntry) (g : RegenSettings) : RunRecord :=
  { column := e.column, stage := .waitWindow, restarted := e.restart, brine := g.brine, slow := g.slow, fast := g.fast
    window := g.window, stageK := none, targetPulses := none, stagePulses := none, stageMs := 0, brineMl := none
    salt := none, saltEmpty := false, outcome := none }

/-- A run starts for the head, where there is one, no run exists and the mode is not SAFE (R48). -/
def startRun (s : State) : State :=
  match s.sfu.list with
  | [] => s
  | e :: rest =>
    if s.runActive || decide (s.cdu.mode = .safe) then s
    else
      let s1 := writeRun (RunRecord.fresh e s.sfu.settings)
        { s with sfu := { s.sfu with list := { e with restart := false } :: rest } }
      if e.restart then waitInlet .brine s1 else windowTest s1

/-- A column enters the list at its end with a clear restart mark, where it is not listed (R45). -/
def appendList (c : Column) (s : State) : State :=
  if s.listed c then s else startRun { s with sfu := { s.sfu with list := s.sfu.list ++ [⟨c, false⟩] } }

/-- An EXHAUSTED column is listed under automatic regeneration (R34, R41, R47). -/
def appendAutomatic (c : Column) (s : State) : State := if s.sfu.settings.automatic then appendList c s else s

/-! ## Selection (R24 to R27) -/

/-- A column is a candidate: FRESH and not listed (R25). -/
def State.candidate (s : State) (c : Column) : Bool := decide ((s.col c).state = .fresh) && !s.listed c

/-- The candidate that selection chooses (R25). -/
def State.choice (s : State) : Option Column :=
  if s.candidate .a && s.candidate .b then some s.sfu.pref
  else if s.candidate .a then some .a
  else if s.candidate .b then some .b
  else none

/-- A column is chosen: IN_SERVICE, the service route, and the preference bit names the other (R25, R27). -/
def takeColumn (c : Column) (b : Blend) (s : State) : State :=
  let s1 := putColumn c { s.col c with state := .inService } s
  { s1 with sfu := { s1.sfu with pref := c.other, blend := some { b with service := some c, bypassAll := false } } }

/-- Selection (R24, R25). The second part says that HARD_FILL is to be raised (R26). -/
def selectColumn (s : State) : State × Bool :=
  match s.sfu.blend with
  | none => (s, false)
  | some b =>
    if b.nb = 32 then ({ s with sfu := { s.sfu with blend := some { b with service := none } } }, false)
    else
      match s.inServiceColumn with
      | some c =>
        ({ s with sfu := { s.sfu with blend := some { b with service := some c, bypassAll := false } } }, false)
      | none =>
        match s.choice with
        | some c => (takeColumn c b s, false)
        | none =>
          ({ s with sfu := { s.sfu with blend := some { b with service := none, bypassAll := true, hardFill := true } } },
            !b.hardFill)

/-! ## Blending (R28, R29) -/

/-- The bypass pulses of a window (R28). -/
def bypassPulses (hRaw hT : Nat) : Nat :=
  if hRaw = 0 ∨ hRaw ≤ hT then 32 else clamp 0 32 ((32 * hT + hRaw / 2) / hRaw)

/-- The route of a window position (R29). -/
def Blend.routeAt (b : Blend) (position : Nat) : Route :=
  if position < b.nb then .bypass
  else match b.service with
    | some c => .column c
    | none => .bypass

/-- The blend valve and the selector are set for the fill's next pulse (R29). -/
def setBlendValves (s : State) : State :=
  match s.sfu.blend, s.wpu.fillRec with
  | some b, some r =>
    match b.routeAt (r.pulses % 32) with
    | .bypass => { s with sfu := { s.sfu with blendValve := true, selector := none } }
    | .column c => { s with sfu := { s.sfu with blendValve := false, selector := some c } }
  | _, _ => s

/-- The service route of a fill whose FILL grant is held (R37, R38). -/
def State.grantedRoute (s : State) : Option Column :=
  if s.wpu.grant = some .fill then s.sfu.blend.bind Blend.service else none

/-- A fill no longer has a column as its service route. -/
def dropRoute (s : State) : State :=
  { s with sfu := { s.sfu with blend := s.sfu.blend.map fun b => { b with service := none } } }

/-- Selection runs at once for a granted fill, and the valves are set again (R24, R29). -/
def reselect (s : State) : State × Bool :=
  let (s1, hard) := selectColumn (dropRoute s)
  (setBlendValves s1, hard)

/-! ## Exhaustion, charge and breakthrough (R33 to R35) -/

/-- A column's remaining has reached 0 (R34): EXHAUSTED and listed, or HELD where a host hold was pending (R38). Selection runs at
once where the column was the service route of a granted fill (R24), on the pulse that completes the fill too: the grant is then
still held (R34; DEDUCED against a sentence of R9, log 23). The second part says that HARD_FILL is to be raised. -/
def exhaustColumn (c : Column) (s : State) : State × Bool :=
  let r := s.col c
  let s1 :=
    if r.holdPending then
      putColumn c { r with state := .held, holdReason := some .host, holdPending := false, remaining := 0 } s
    else appendAutomatic c (putColumn c { r with state := .exhausted, remaining := 0 } s)
  if s.grantedRoute = some c then reselect s1 else (s1, false)

/-- One column pulse's charge (R33), with the H_raw and K captured in the record. -/
def ColumnRecord.charged (r : ColumnRecord) (hRaw k : Nat) : ColumnRecord :=
  let load := r.residue + hRaw * 1000
  { r with residue := load % k, remaining := r.remaining - load / k }

/-- A column pulse is charged, and a column brought to 0 is exhausted (R33, R34). -/
def chargeColumn (c : Column) (hRaw k : Nat) (s : State) : State × Bool :=
  let s1 := writeColumn c ((s.col c).charged hRaw k) s
  if (s1.col c).remaining = 0 then exhaustColumn c s1 else (s1, false)

/-- The breakthrough run after a sample (R35). -/
def sampledRun (run : Nat) (asserted : Bool) : Nat := if asserted then min 16 (run + 1) else 0

/-- The nominal that breakthrough leaves (R35). -/
def learnedNominal (nominal remaining : Nat) : Nat := max 2000000 (nominal - remaining / 2)

/-- The comparator is sampled after the charge (R35). The second part says that HARD_FILL is to be raised, the third that
EARLY_BREAKTHROUGH is. -/
def sampleColumn (c : Column) (asserted : Bool) (s : State) : State × Bool × Bool :=
  let r := s.col c
  let s1 := writeColumn c { r with btRun := sampledRun r.btRun asserted } s
  if sampledRun r.btRun asserted = 16 ∧ 0 < r.remaining then
    let r1 := s1.col c
    let (s2, hard) := exhaustColumn c (writeColumn c { r1 with nominal := learnedNominal r.nominal r.remaining } s1)
    (s2, hard, true)
  else (s1, false, false)

/-- The boundary actions of a pulse at position 0 (R30). -/
def boundary (s : State) : State × Bool :=
  match s.sfu.blend with
  | none => (s, false)
  | some b =>
    let s1 :=
      match b.service with
      | some c => if (s.col c).holdPending then dropRoute (takePendingHold c s) else s
      | none => s
    match s1.sfu.blend with
    | some b1 => if b1.service.isNone ∧ b1.nb < 32 then selectColumn s1 else (s1, false)
    | none => (s1, false)

/-- Each fill pulse's way through the unit (R29): the route, and the conditions it calls for, in their order (R9). -/
structure Routed where
  state : State
  route : Route
  raises : List Condition
deriving DecidableEq, Repr

/-- The conditions of one pulse in their order: HARD_FILL of a selection, then EARLY_BREAKTHROUGH (R9, R35). -/
def pulseRaises (hard early : Bool) : List Condition :=
  (if hard then [.hardFill] else []) ++ (if early then [.earlyBreakthrough] else [])

/-- A fill pulse is routed, charged and sampled (R29, R30, R33, R35). `r` is the open record before the pulse, and the two levels
are the comparators'. -/
def routePulse (r : FillRecord) (compA compB : Bool) (s : State) : Routed :=
  let (s1, hard1) := if r.pulses % 32 = 0 then boundary s else (s, false)
  match s1.sfu.blend with
  | none => ⟨s1, .bypass, pulseRaises hard1 false⟩
  | some b =>
    match b.routeAt (r.pulses % 32) with
    | .bypass => ⟨s1, .bypass, pulseRaises hard1 false⟩
    | .column c =>
      let (s2, hard2) := chargeColumn c r.hRaw r.k s1
      let (s3, hard3, early) := sampleColumn c (match c with | .a => compA | .b => compB) s2
      ⟨s3, .column c, pulseRaises (hard1 || hard2 || hard3) early⟩

end Sys2Proof.Machine
end

