-- ==== Sys2Proof/Machine/Conditions.lean ====
section
/-! DEFINITION. The Condition Unit's consequences (chapter 10) and the hold (6.4): the change of mode, the hold of the wash, the
entry into SAFE, and the raising of a condition by its class. -/

namespace Sys2Proof.Machine

/-! ## The mode (R182, R194) -/

/-- The supervision timer after a change of mode (R194): it starts at 0 in RUN and SERVICE, and stops in STANDBY and SAFE. -/
def superviseIn (m : Mode) : Option Nat := if m.runs then some 0 else none

/-- The mode changes (R182): MODE attention, the supervision timer (R194), the pump (R135) and the window test (R49). A change to
the mode that holds is no change. -/
def setMode (m : Mode) (s : State) : State :=
  if s.cdu.mode = m then s
  else
    let s1 := setAttention .mode (.mode m) { s with cdu := { s.cdu with mode := m } }
    windowTest (refreshPump { s1 with lkp := { s1.lkp with supervision := superviseIn m } })

/-! ## Stopping the wet side (R17, R118) -/

/-- A drain is stopped without completion (R17). -/
def stopDrain (s : State) : State := { s with wpu := { s.wpu with drain := none, drainPump := false } }

/-- A drain is asked for (R16, R17): the pump runs, and both counts start at 0. -/
def startDrain (s : State) : State := { s with wpu := { s.wpu with drain := some ⟨0, 0⟩, drainPump := true } }

/-- The Wash Controller gives the inlet up (R2, R3, R11): a waiting claim is withdrawn, a grant is released, and no other fill can
wait behind it. -/
def dropFill (s : State) : State :=
  let s1 := { s with wpu := { s.wpu with waitFill := none } }
  if s1.wpu.grant = some .fill then passOnNoFill (endFillGrant (freeInlet s1)) else s1

/-- What a hold stops in each stage (R118). -/
def stopStage (st : Stage) (s : State) : State :=
  match st with
  | .fill => stopHeat (dropFill s)
  | .heat | .hold | .sense => stopHeat s
  | .drain => stopDrain (stopHeat s)
  | .drying => suspendDry s
  | .done => s

/-- The wash becomes HELD (R118). A hold told while no wash is RUNNING is not taken, and a HELD wash keeps its cause. -/
def holdWash (cause : HoldCause) (s : State) : State :=
  match s.wsc.active with
  | none => s
  | some a =>
    if s.wsc.wash = .running then
      suspendDoses (stopStage a.stage { s with wsc := { s.wsc with wash := .held, cause := some cause } })
    else s

/-! ## SAFE (R183) -/

/-- The drain pump of SAFE draining (R19). -/
def State.safeDrains (s : State) : Bool := s.wpu.leakWet || s.wpu.waterPresent

/-- In SAFE the drain pump follows the leak float and the water-present switch (R19). -/
def followSafeDrain (s : State) : State :=
  if s.cdu.mode = .safe then { s with wpu := { s.wpu with drainPump := s.safeDrains } } else s

/-- The inlet inhibit is set (R5): the grant is revoked, and every waiting claim is refused. -/
def inhibitInlet (s : State) : State :=
  let s1 := if s.wpu.grant = some .fill then endFillGrant s else s
  { s1 with
    wpu := { s1.wpu with
      inhibit := true, grant := none, valveOpen := false, waitFill := none, waitRegen := none, waitTest := none } }

/-- A running test ends with an outcome; an entry that reads not running stays (R188). -/
def TestEntry.endedWith (t : TestEntry) (o : TestOutcome) : TestEntry :=
  if t.running then { t with running := false, outcome := some o } else t

/-- Every running service test is marked ended (R183, R188); a diverter test records the position that the cam reads (R142). -/
def endAllTests (o : TestOutcome) (s : State) : State :=
  let d := s.testEntry .diverter
  let s1 := if d.running then writeTest .diverter { d with cam := some s.hcu.cam } s else s
  { s1 with cdu := { s1.cdu with tests := s1.cdu.tests.map fun t => t.endedWith o } }

/-- The drives of the dosing pumps are cut (R92). -/
def cutDrives (s : State) : State := { s with dsu := { s.dsu with drive := none } }

/-- A moving opener is stopped (R157), and a stopped DRY move reaches the drying run (R164). -/
def stopOpener (s : State) : State :=
  let s1 := stopMove s
  if s.openerMoves ∧ s.dru.issuer = .dry then (dryMoveEnded s.dru.commanded .stopped s1).1 else s1

/-- The owners' stops at SAFE entry, in the order of R183's list (log 29). -/
def stopOwners (c : Condition) (s : State) : State :=
  let s1 := followSafeDrain (stopDrain (inhibitInlet s))
  let s2 := stopHeat (endAllTests .safe s1)
  let s3 := stopDoseTest (suspendDoses (cutDrives s2))
  let s4 := holdWash (.condition c) s3
  let s5 := followSafeDrain { s4 with wsc := { s4.wsc with abortDrain := false } }
  stopOpener (abortRun s5)

/-- SAFE is entered (R183). -/
def enterSafe (c : Condition) (s : State) : State :=
  stopOwners c (setMode .safe { s with cdu := { s.cdu with safeSet := [c] } })

/-- A SAFE_ALWAYS condition joins the SAFE cause set (R178, R184). -/
def joinSafe (c : Condition) (s : State) : State :=
  if c ∈ s.cdu.safeSet then s else { s with cdu := { s.cdu with safeSet := s.cdu.safeSet ++ [c] } }

/-! ## Raising (R175 to R178) -/

/-- A TRAPPABLE condition is answered TRAP while the wash is RUNNING (R176). -/
def State.traps (s : State) (c : Condition) : Bool :=
  s.trapEnabled c || (decide (c = .hardFill) && s.softRequired)

/-- The answer to a TRAPPABLE condition while the wash is HELD (R177). -/
def State.heldAnswer (s : State) (c : Condition) : CondAnswer :=
  if c = .dosePumpFault ∧ !s.trapEnabled c then .default else .held

/-- The consequence of a condition in SAFE (R178). -/
def consequenceInSafe (c : Condition) (s : State) : State × CondAnswer :=
  match c.cls with
  | .note | .holdAlways => (s, .none)
  | .safeAlways => (joinSafe c s, .none)
  | .trappable => (s, if s.wsc.wash = .held then s.heldAnswer c else .default)

/-- The consequence of a condition while the wash is RUNNING (R176). -/
def consequenceRunning (c : Condition) (s : State) : State × CondAnswer :=
  match c.cls with
  | .note => (s, .none)
  | .holdAlways => (holdWash (.condition c) s, .none)
  | .safeAlways => (enterSafe c s, .none)
  | .trappable => if s.traps c then (holdWash (.condition c) s, .trap) else (s, .default)

/-- The consequence of a condition while the wash is HELD in RUN (R177). -/
def consequenceHeld (c : Condition) (s : State) : State × CondAnswer :=
  match c.cls with
  | .note | .holdAlways => (s, .none)
  | .safeAlways => (enterSafe c s, .none)
  | .trappable => (s, s.heldAnswer c)

/-- The consequence of a condition while no program runs (R177). -/
def consequenceIdle (c : Condition) (s : State) : State × CondAnswer :=
  match c.cls with
  | .note | .holdAlways => (s, .none)
  | .safeAlways => (enterSafe c s, .none)
  | .trappable => (s, .default)

/-- A block raises a condition: it is recorded (R175), and its class's consequence follows by the mode and the wash. -/
def raise (c : Condition) (s : State) : State × CondAnswer :=
  let s1 := recordCondition c s
  match s.cdu.mode with
  | .safe => consequenceInSafe c s1
  | .standby | .service => consequenceIdle c s1
  | .run =>
    match s.wsc.wash with
    | .running => consequenceRunning c s1
    | .held => consequenceHeld c s1
    | .idle => consequenceIdle c s1

/-- A condition is raised, and its answer needs no action of the raising block. -/
def raiseOnly (c : Condition) (s : State) : State := (raise c s).1

/-- Conditions are raised one after the other. -/
def raiseAll (cs : List Condition) (s : State) : State := cs.foldl (fun acc c => raiseOnly c acc) s

end Sys2Proof.Machine
end

