-- ==== Sys2Proof/Machine/Fill.lean ====
section
/-! DEFINITION. Fills (chapter 1): the FILL grant, the general release of the inlet, the close of a fill record, the dose requests
that follow a fill, and the pulses of the flow meter. -/

namespace Sys2Proof.Machine

/-! ## The FILL grant (R8, R11) -/

/-- A new fill record (R8). -/
def FillRecord.fresh (f : FillClaim) (w : WaterSettings) (start : Nat) : FillRecord :=
  { phaseId := f.phaseId, target := f.target, targetPulses := pulsesFor f.target w.k, pulses := 0, bypass := 0, colA := 0
    colB := 0, hRaw := w.hRaw, hT := w.hT, k := w.k, vRef := w.vRef, limitCode := w.limitCode, start := start
    closed := none }

/-- The seconds since the latest reset (00, "Times and timers"). -/
def State.uptimeSec (s : State) : Nat := s.uptimeMs / 1000

/-- A new record opens, and its blend state with it (R8, R28). -/
def openRecord (f : FillClaim) (s : State) : State :=
  { s with
    wpu := { s.wpu with fillRec := some (FillRecord.fresh f s.wpu.settings s.uptimeSec), fillMs := 0 }
    sfu := { s.sfu with
      blend := some ⟨bypassPulses s.wpu.settings.hRaw s.wpu.settings.hT, none, false, false⟩ } }

/-- An open record is taken up again: its HARD_FILL mark is cleared, and everything else of it stays (R11, R31). -/
def takeUpRecord (s : State) : State :=
  { s with sfu := { s.sfu with blend := s.sfu.blend.map fun b => { b with hardFill := false } } }

/-- The valve opens for the fill, where FILL still holds the grant (R4). -/
def openForFill (s : State) : State :=
  if s.wpu.grant = some .fill then { s with wpu := { s.wpu with valveOpen := true } } else s

/-- The FILL grant (R8, R11): the record, selection, the blend valves, then the inlet valve. A selection without a candidate raises
HARD_FILL before the valve opens, and a hold that answers it takes the grant away again (R26). -/
def grantFill (f : FillClaim) (s : State) : State :=
  let s1 := giveGrant .fill { s with wpu := { s.wpu with waitFill := none } }
  let s2 := if s.wpu.fillRec.isSome then takeUpRecord s1 else openRecord f s1
  let (s3, hard) := selectColumn s2
  let s4 := setBlendValves s3
  openForFill (if hard then raiseOnly .hardFill s4 else s4)

/-- The inlet has just become free (R2): FILL is served before REGEN, and REGEN before TEST. -/
def passOn (s : State) : State :=
  match s.wpu.waitFill with
  | some f => grantFill f s
  | none => passOnNoFill s

/-- A release (R2): the valve closes and the grant passes on. One by a party that does not hold the grant has no effect. -/
def releaseInlet (c : Claimant) (s : State) : State :=
  if s.wpu.grant = some c then
    passOn (if c = .fill then endFillGrant (freeInlet s) else freeInlet s)
  else s

/-- A FILL claim (R1). -/
def claimFill (f : FillClaim) (s : State) : State :=
  if s.wpu.inhibit then s
  else
    match s.wpu.grant with
    | none => grantFill f s
    | some .fill => s
    | some _ => { s with wpu := { s.wpu with waitFill := some f } }

/-- A TEST claim (R1). -/
def claimTest (seconds : Nat) (s : State) : State :=
  if s.wpu.inhibit then s
  else
    match s.wpu.grant with
    | none =>
      let s1 := giveGrant .test s
      { s1 with wpu := { s1.wpu with valveOpen := true } }
    | some .test => s
    | some _ => { s with wpu := { s.wpu with waitTest := some seconds } }

/-! ## The close of a fill (R10, R14, R15) -/

/-- The delivered hardness (R10). -/
def FillRecord.hardness (r : FillRecord) : Nat := divNearest (r.hRaw * r.bypass) r.pulses

/-- A record's three closed fields (R10). -/
def FillRecord.close (r : FillRecord) (o : FillOutcome) : FillRecord :=
  { r with closed := some ⟨volumeOf r.pulses r.k, r.hardness, o⟩ }

/-- The program water total after an addition (R108); beyond its field it is a free value (log 30). -/
def totalAfter (total mL : Nat) : Nat :=
  if total + mL < 4294967296 then total + mL else (Config.totalBeyond (total + mL)).toNat

/-- The handover of the delivered mL to the program water total (R10, R108). -/
def addToTotal (mL : Nat) (s : State) : State :=
  { s with wsc := { s.wsc with ctx := s.wsc.ctx.map fun c => { c with total := totalAfter c.total mL } } }

/-- A closed record enters the ledger at its newest end (R15). -/
def enterLedger (r : FillRecord) (ledger : List FillRecord) : List FillRecord := (r :: ledger).take 8

/-- The open record closes (R10): ledger, water total, FILL attention; the blend state goes with it (R32). -/
def closeFill (o : FillOutcome) (s : State) : State :=
  match s.wpu.fillRec with
  | none => s
  | some r =>
    let s1 := { s with
      wpu := { s.wpu with fillRec := none, ledger := enterLedger (r.close o) s.wpu.ledger }
      sfu := { s.sfu with blend := none } }
    setAttention .fill (.fill r.phaseId o) (addToTotal (volumeOf r.pulses r.k) s1)

/-- An abort's end of a fill (R14): the claim is withdrawn or released as it stands, and an open record closes ABANDONED. -/
def abandonFill (s : State) : State := closeFill .abandoned (dropFill s)

/-! ## Dose requests (R78, R83, R85, R93) -/

/-- What the Condition Unit's answer to DOSE_SHORT makes of the record (R83, R85). -/
def answerShort (a : Agent) (planned : Nat) (ans : CondAnswer) (s : State) : State :=
  match ans with
  | .trap | .held => editDose a (fun r => { r with recompute := true }) s
  | .default | .none => if planned = 0 then endDose a .short s else s

/-- DOSE_SHORT is raised for an agent, and the answer taken (R83, R84). -/
def raiseShort (a : Agent) (planned : Nat) (s : State) : State :=
  let (s1, ans) := raise .doseShort (if a = .rinseAid then setShortfall s else s)
  answerShort a planned ans s1

/-- A dose request for one agent (R78 to R85), with the closed fill record's figures. -/
def requestDose (a : Agent) (phaseId base : Nat) (fill : FillRecord) (s : State) : State :=
  if s.hasDose a phaseId then s
  else
    let r := s.computed a phaseId base (volumeOf fill.pulses fill.k) fill.hardness fill.vRef
    let s1 := restate (writeLive (s.dsu.live ++ [r]) s)
    if (s.entry a.entry).limits r.full then raiseShort a r.planned s1
    else if r.planned = 0 then endDose a .done s1
    else s1

/-- A record marked for recomputation is computed again (R93, step 1), with its V, H and V_ref. -/
def recomputeDose (a : Agent) (s : State) : State :=
  match s.liveDose a with
  | none => s
  | some r =>
    let n := s.computed a r.phaseId r.base r.volume r.hardness r.vRef
    let s1 := editDose a (fun _ => { n with state := r.state, done := r.done, misses := r.misses }) s
    if (s.entry a.entry).limits n.full then
      let (s2, ans) := raise .doseShort (if a = .rinseAid then setShortfall s1 else s1)
      match ans with
      | .trap | .held => editDose a (fun x => { x with recompute := true }) s2
      | .default | .none => s2
    else s1

/-- R93's step 3: the records that plan no strokes end, in the waiting list's order (log 35), and the driver is taken up. -/
def takeUpDriver (s : State) : State :=
  let empty := s.dsu.live.filter fun r => decide (r.planned = 0)
  restate (empty.foldl (fun acc r => endDose r.agent r.endState acc) s)

/-- The Dosing Unit at RESUME (R93). A hold that a recomputation brings leaves step 3 out. -/
def resumeDoses (s : State) : State :=
  let marked := s.dsu.live.filter fun r => r.recompute
  let s1 := marked.foldl (fun acc r => recomputeDose r.agent acc) s
  let s2 := writeLive (s1.dsu.live.map fun r => { r with misses := 0 }) s1
  if s2.wsc.wash = .running then takeUpDriver s2 else s2

/-! ## Ends of regeneration stages (R52 to R56) -/

/-- BRINE reaches its target (R52). -/
def endBrine (s : State) : State := waitInlet .slowRinse (chargeSalt (releaseInlet .regen (closeStageValves s)))

/-- SLOW_RINSE reaches its time (R53). -/
def endSlow (s : State) : State := waitInlet .fastRinse (releaseInlet .regen (closeStageValves s))

/-- A column's record after its regeneration is DONE (R55, steps 1 to 3). -/
def ColumnRecord.regenerated (r : ColumnRecord) (saltEmpty : Bool) : ColumnRecord :=
  { r with
    remaining := if saltEmpty then r.nominal / 4 else r.nominal
    residue := 0
    btRun := 0
    regenCount := satSucc 65535 r.regenCount
    state := .fresh }

/-- FAST_RINSE reaches its target (R55). -/
def endFast (s : State) : State :=
  match s.sfu.run with
  | none => s
  | some r =>
    let s1 := putColumn r.column ((s.col r.column).regenerated r.saltEmpty) s
    let s2 := endRun .done (dropHead (writeRun { r with stage := .done, targetPulses := none } s1))
    startRun (releaseInlet .regen (closeStageValves s2))

/-- A stage's limit expires (R56). -/
def faultRun (s : State) : State :=
  match s.sfu.run with
  | none => s
  | some r =>
    let s1 := closeStageValves s
    let s2 := releaseInlet .regen (if s.runIn .brine then chargeSalt s1 else s1)
    let s3 := putColumn r.column { s2.col r.column with state := .held, holdReason := some .regenFault } s2
    startRun (recordCondition .regenFault (endRun .fault (dropHead s3)))

/-- A pulse of a running stage (R50): BRINE and FAST_RINSE end at their target. -/
def stagePulse (s : State) : State :=
  match s.sfu.run with
  | none => s
  | some r =>
    match r.stagePulses with
    | none => s
    | some n =>
      let s1 := writeRun { r with stagePulses := some (n + 1) } s
      if r.outcome.isSome then s
      else
        match r.stage, r.targetPulses with
        | .running .brine, some t => if t ≤ n + 1 then endBrine s1 else s1
        | .running .fastRinse, some t => if t ≤ n + 1 then endFast s1 else s1
        | .running .slowRinse, _ => s1
        | _, _ => s

/-! ## Pulses (R6, R7, R9) -/

/-- The pulse is counted in the total (R6). -/
def countPulse (s : State) : State := { s with wpu := { s.wpu with total := s.wpu.total + 1 } }

/-- An unattributed pulse (R6, R7). -/
def unattributedPulse (s : State) : State :=
  let s1 := { s with wpu := { s.wpu with unattributed := s.wpu.unattributed + 1, window := s.wpu.window + 1 } }
  if s.wpu.window = 40 then raiseOnly .inletLeak s1 else s1

/-- A pulse's route is counted in the record (R9). -/
def FillRecord.routed (r : FillRecord) (route : Route) : FillRecord :=
  match route with
  | .bypass => { r with pulses := r.pulses + 1, bypass := r.bypass + 1 }
  | .column .a => { r with pulses := r.pulses + 1, colA := r.colA + 1 }
  | .column .b => { r with pulses := r.pulses + 1, colB := r.colB + 1 }

/-- A fill pulse up to its target test (R6, R9, R29): counted, routed and charged, and the valves set for the next pulse. -/
def fillPulse (r : FillRecord) (compA compB : Bool) (s : State) : State × List Condition :=
  let s1 := { s with
    wpu := { s.wpu with fillTotal := s.wpu.fillTotal + 1, fillRec := some { r with pulses := r.pulses + 1 } } }
  let p := routePulse r compA compB s1
  let s2 := { p.state with wpu := { p.state.wpu with fillRec := some (r.routed p.route) } }
  (setBlendValves s2, p.raises)

end Sys2Proof.Machine
end

