-- ==== Sys2Proof/Machine/Wash.lean ====
section
/-! DEFINITION. The Wash Controller (chapter 6): the starts and ends of phases and programs, the stages of a water phase, and the
reports that move them on. -/

namespace Sys2Proof.Machine

/-! ## The active phase -/

/-- Changes the active phase, where there is one. -/
def editActive (f : ActivePhase → ActivePhase) (s : State) : State :=
  { s with wsc := { s.wsc with active := s.wsc.active.map f } }

/-- The stage is entered. -/
def setStage (st : Stage) (s : State) : State := editActive (fun a => { a with stage := st }) s

/-- The wash is RUNNING in a stage. -/
def State.runningIn (s : State) (st : Stage) : Bool :=
  match s.wsc.active with
  | some a => decide (s.wsc.wash = .running) && decide (a.stage = st)
  | none => false

/-! ## The start of a phase (R106, R109, R116) -/

/-- A kind's first stage (R106). -/
def PhaseKind.firstStage : PhaseKind → Stage
  | .dry => .drying
  | .drain => .drain
  | .pre | .main | .rinse | .final => .fill

/-- The active phase of a record at its start (R106). -/
def ActivePhase.fresh (r : PhaseRecord) : ActivePhase :=
  { record := r, stage := r.kind.firstStage, holdSec := r.hold, holdFracMs := 0, target := r.temp, detergentAsked := false
    rinseAsked := false, holdEnded := false, classDone := false, filled := false }

/-- R106 up to the first stage: the active phase, the cause set, the window test, and the Heat and Circulation Unit's figures. -/
def enterPhase (r : PhaseRecord) (rest : List PhaseRecord) (s : State) : State :=
  let s1 := { s with
    wsc := { s.wsc with queue := rest, active := some (ActivePhase.fresh r), wash := .running }
    cdu := { s.cdu with causes := 0 } }
  setUpHeat r (windowTest s1)

/-- The claim of a phase's fill (R109). -/
def PhaseRecord.claim (r : PhaseRecord) : FillClaim := ⟨r.id, r.fill⟩

/-- The FILL stage begins (R109): the door is tested, and the inlet claimed. -/
def beginFillStage (r : PhaseRecord) (s : State) : State :=
  if s.doorShut then claimFill r.claim s else raiseOnly .doorOpened s

/-- The DRAIN stage of a DRAIN kind begins (R116): the door is tested, and a drain asked for. -/
def beginDrainKind (s : State) : State := if s.doorShut then startDrain s else raiseOnly .doorOpened s

/-! ## The end of a phase and of a program (R107) -/

/-- The program water total of the context. -/
def State.waterTotal (s : State) : Nat :=
  match s.wsc.ctx with
  | some c => c.total
  | none => 0

/-- R107's steps 1 to 3: heat and pump stop, the dose records are removed, PHASE attention is set. -/
def closePhase (s : State) : State :=
  match s.wsc.active with
  | none => s
  | some a => setAttention .phase (.phase a.record.id) (removeDoses (stopHeat (setStage .done s)))

/-- The program ends with the queue empty (R107, step 5). -/
def endProgram (s : State) : State :=
  let s1 := { s with wsc := { s.wsc with active := none, wash := .idle, cause := none } }
  windowTest (setAttention .program (.program .completed s1.waterTotal) (setMode .standby s1))

/-- The records of a queue are started from its front (R106, R107): a phase whose drying run ends at its start is ended, and the
next one starts. With no record left the program ends. -/
def startQueue : List PhaseRecord → State → State
  | [], s => endProgram s
  | r :: rest, s =>
    let s1 := enterPhase r rest s
    match r.kind with
    | .dry =>
      let p := startDry r s1
      if p.2 then startQueue rest (closePhase p.1) else p.1
    | .drain => beginDrainKind s1
    | .pre | .main | .rinse | .final => beginFillStage r s1

/-- The active phase reaches DONE (R107). -/
def endPhase (s : State) : State := startQueue s.wsc.queue (closePhase s)

/-- A drying operation's outcome reaches the Wash Controller: an end of the run ends the DRY phase (R117, R170). -/
def takeDry (p : State × Bool) : State := if p.2 ∧ p.1.runningIn .drying then endPhase p.1 else p.1

/-! ## Leaving a stage (R114) -/

/-- The stage's own work is done (R114). -/
def ActivePhase.workDone (a : ActivePhase) : Bool :=
  (decide (a.stage = .hold) && a.holdEnded && !a.record.soilSense) || (decide (a.stage = .sense) && a.classDone)

/-- A water phase leaves its HOLD or SENSE (R114). -/
def leaveStage (a : ActivePhase) (s : State) : State :=
  if a.record.drainAtEnd then startDrain (setStage .drain (stopHeat s)) else endPhase s

/-- The test of R114: the wash is RUNNING, the stage's work is done, and every dose record has ended. -/
def leaveTest (s : State) : State :=
  match s.wsc.active with
  | none => s
  | some a =>
    if s.wsc.wash = .running ∧ a.workDone ∧ s.dsu.live = [] then leaveStage a s else s

/-! ## HOLD and SENSE (R112, R113) -/

/-- The phase's closed fill record, where the phase has one: the newest of the ledger, since no other fill closes meanwhile
(R112, R120). -/
def State.phaseFill (s : State) : Option FillRecord := s.wpu.ledger.head?

/-- The rinse-aid request of a HOLD that begins (R112). -/
def requestRinse (a : ActivePhase) (s : State) : State :=
  match a.record.rinse, s.phaseFill with
  | some base, some fill =>
    requestDose .rinseAid a.record.id base fill (editActive (fun x => { x with rinseAsked := true }) s)
  | _, _ => s

/-- MAINTAIN heat at the effective target, where it is above 0 (R112). -/
def maintainHeat (s : State) : State :=
  match s.wsc.active with
  | some a => if 0 < a.target ∧ s.wsc.wash = .running then requestHeat .maintain a.target s else s
  | none => s

/-- HOLD begins (R112). -/
def beginHold (s : State) : State :=
  match s.wsc.active with
  | none => s
  | some a => maintainHeat (requestRinse a (setStage .hold s))

/-- The hold countdown has reached 0 (R112): SENSE follows with the soil-sense flag (R113), else the wait for the doses. -/
def endCountdown (s : State) : State :=
  let s1 := editActive (fun a => { a with holdSec := 0, holdFracMs := 0, holdEnded := true }) s
  match s1.wsc.active with
  | none => s1
  | some a => if a.record.soilSense then askClass (setStage .sense s1) else leaveTest s1

/-- The class report of SENSE (R113, R114). -/
def takeClass (s : State) : State := leaveTest (editActive (fun a => { a with classDone := true }) s)

/-! ## The close of the phase's fill (R110) -/

/-- The detergent and additive of a record in one request, detergent first (R85, R110). -/
def requestWashDoses (r : PhaseRecord) (fill : FillRecord) (s : State) : State :=
  let s1 := match r.detergent with
    | some b => requestDose .detergent r.id b fill s
    | none => s
  match r.additive with
  | some b => requestDose .additive r.id b fill s1
  | none => s1

/-- Step 4 of R110: the request is made where the record carries a base. -/
def askWashDoses (r : PhaseRecord) (fill : FillRecord) (s : State) : State :=
  if r.detergent.isSome || r.additive.isSome then
    requestWashDoses r fill (editActive (fun a => { a with detergentAsked := true }) s)
  else s

/-- The fill record has closed COMPLETE or SHORT_ACCEPTED (R110). The water total is added at the close itself. A hold that step 4
brings leaves no heat behind (R118, log 21). -/
def fillClosed (s : State) : State :=
  match s.wsc.active, s.phaseFill with
  | some a, some fill =>
    if s.runningIn .fill then
      let s1 := editActive (fun x => { x with stage := if 0 < a.target then .heat else .hold, filled := true }) s
      let s2 := askWashDoses a.record fill (circulate a.record.speed s1)
      if 0 < a.target then
        if s2.wsc.wash = .running then requestHeat .heat a.target s2 else s2
      else beginHold s2
    else s
  | _, _ => s

/-! ## Reports of the Heat and Circulation Unit (R111) -/

/-- Temperature reached (R111): HEAT becomes HOLD; a later report changes nothing. -/
def temperatureReached (s : State) : State := if s.runningIn .heat then beginHold s else s

/-- HEAT_SLOW's default action (R111, R134): the target becomes the present temperature, the hold grows by half, HOLD begins, and a
MAINTAIN request replaces the HEAT request. -/
def heatSlowDefault (s : State) : State :=
  if s.runningIn .heat then
    let s1 := beginHold
      (editActive (fun a => { a with target := s.hcu.temp, holdSec := a.holdSec * 3 / 2 }) s)
    if s1.wsc.wash = .running ∧ s.hcu.temp ≤ 0 then requestHeat .maintain s.hcu.temp s1 else s1
  else s

/-! ## The drain's end (R114, R125) -/

/-- The drain is complete (R16): the abort drain's mark is cleared, or the phase in DRAIN ends. -/
def drainComplete (s : State) : State :=
  let s1 := stopDrain s
  if s1.wsc.abortDrain then { s1 with wsc := { s1.wsc with abortDrain := false } }
  else if s1.runningIn .drain then endPhase s1
  else s1

/-- The drain ends incomplete at its limit (R16, R125), and DRAIN_SLOW is raised. -/
def drainFails (s : State) : State :=
  let s1 := stopDrain s
  raiseOnly .drainSlow { s1 with wsc := { s1.wsc with abortDrain := false } }

/-! ## Door reports (R115) -/

/-- The phases in which the Wash Controller watches the door (R115). -/
def State.watchesDoor (s : State) : Bool :=
  match s.wsc.active with
  | some a => decide (s.wsc.wash = .running) && !a.isDry
  | none => false

/-- A door report that opens the machine raises DOOR_OPENED in a running water or DRAIN phase (R115). -/
def doorOpens (s : State) : State := if s.watchesDoor then raiseOnly .doorOpened s else s

/-! ## RESUME (R121, R122) -/

/-- No condition of the cause set blocks RESUME (R121). -/
def State.causesAllowResume (s : State) : Bool :=
  decide (s.cdu.causes &&& holdConditions = 0) &&
  decide (s.cdu.causes &&& s.cdu.traps &&& trappableConditions = 0) &&
  !(decide (s.cdu.causes &&& Condition.hardFill.mask ≠ 0) && s.softRequired)

/-- RESUME is accepted (R121). -/
def State.resumable (s : State) : Bool :=
  match s.wsc.active with
  | none => false
  | some a =>
    decide (s.wsc.wash = .held) && decide (s.cdu.mode = .run) && (a.isDry || s.doorShut) && s.causesAllowResume

/-- A held HOLD resumes through HEAT (R122): seconds remain, and the water is more than 5.0 °C below an effective target. -/
def State.resumesThroughHeat (s : State) (a : ActivePhase) : Bool :=
  decide (0 < a.holdSec) && decide (0 < a.target) && decide (s.hcu.temp < a.target - 50)

/-- A held HOLD that does not resume through HEAT (R122): circulation, temperature control, and the countdown or the wait. -/
def resumeHold (a : ActivePhase) (s : State) : State :=
  let s1 := maintainHeat (circulate a.record.speed s)
  if a.holdEnded then leaveTest s1
  else if a.holdSec = 0 then endCountdown s1
  else s1

/-- A held SENSE (R122): circulation, temperature control and the classification asked for afresh; then the test of R114, which a
class already written and ended doses meet at once (log 13). -/
def resumeSense (a : ActivePhase) (s : State) : State := leaveTest (askClass (maintainHeat (circulate a.record.speed s)))

/-- The stage in which the hold was taken is restarted (R122). -/
def restartStage (a : ActivePhase) (s : State) : State :=
  match a.stage with
  | .fill => if s.wpu.fillRec.isSome then claimFill a.record.claim s else beginFillStage a.record s
  | .heat => requestHeat .heat a.target (circulate a.record.speed s)
  | .hold =>
    if s.resumesThroughHeat a then requestHeat .heat a.target (circulate a.record.speed (setStage .heat s))
    else resumeHold a s
  | .sense => resumeSense a s
  | .drain => startDrain s
  | .drying => takeDry (resumeDry s)
  | .done => s

/-- RESUME's actions (R122). A hold that the doses bring leaves the stage as it was held. -/
def resumeWash (s : State) : State :=
  let s1 := resumeDoses { s with wsc := { s.wsc with wash := .running, cause := none } }
  match s1.wsc.active with
  | none => s1
  | some a => if s1.wsc.wash = .running then restartStage a s1 else s1

end Sys2Proof.Machine
end

