-- ==== Sys2Proof/Machine/Columns.lean ====
section
/-! DEFINITION. The host's requests on water and columns: SET-WATER and GET-FILLS (chapter 1), SET-COLUMN and GET-COLUMNS
(chapter 2), SET-REGEN and REGEN-NOW (chapter 3). -/

namespace Sys2Proof.Machine

/-! ## SET-WATER and GET-FILLS (R20, R15, R202) -/

/-- The five values clamped to their ranges (R20). -/
def WaterSettings.clamped (k hRaw hT vRef limit : Nat) : WaterSettings :=
  ⟨clamp 200 1200 k, clamp 0 700 hRaw, clamp 0 150 hT, clamp 2000 8000 vRef, clamp 0 3 limit⟩

/-- SET-WATER (R20). -/
def setWaterRequest (k hRaw hT vRef limit : Nat) (s : State) : State × Answer :=
  let w := WaterSettings.clamped k hRaw hT vRef limit
  ({ s with wpu := { s.wpu with settings := w } }, .ok (.water w))

/-- The outcome byte of a fill record (R202). -/
def FillRecord.outcomeByte (r : FillRecord) : Byte :=
  match r.closed with
  | none => 0
  | some c =>
    match c.outcome with
    | .complete => 1
    | .shortAccepted => 2
    | .abandoned => 3

/-- GET-FILLS' payload of 33 bytes (R202). -/
def fillBytes (count index : Nat) (r : FillRecord) : List Byte :=
  be1 count ++ be1 index ++ be1 r.phaseId ++ [r.outcomeByte] ++ be2 r.target ++ be2 r.targetPulses ++ be2 r.pulses ++
  be2 r.bypass ++ be2 r.colA ++ be2 r.colB ++ be2 r.hRaw ++ be2 r.hT ++ be2 r.k ++ be2 r.vRef ++ be1 r.limitCode ++
  be4 r.start ++ be2o (r.closed.map FillClose.delivered) ++ be2o (r.closed.map FillClose.hardness)

/-- GET-FILLS (R15). -/
def getFillsRequest (index : Nat) (s : State) : State × Answer :=
  if index < 8 then
    match s.wpu.ledger[index]? with
    | some r => (s, .ok (.bytes (fillBytes s.wpu.ledger.length index r)))
    | none => (s, .refused .notFound)
  else if index = 255 then
    match s.wpu.fillRec with
    | some r => (s, .ok (.bytes (fillBytes s.wpu.ledger.length index r)))
    | none => (s, .refused .notFound)
  else (s, .refused .field)

/-! ## SET-COLUMN (R36 to R41, R58) -/

/-- KEEP in a four-byte field (R36). -/
def keep32 : Nat := 4294967295

/-- R36's steps 1 and 2. -/
def ColumnRecord.configured (r : ColumnRecord) (nominal remaining : Nat) : ColumnRecord :=
  let n := if nominal = keep32 then r.nominal else clamp 2000000 40000000 nominal
  { r with nominal := n, remaining := min (if remaining = keep32 then r.remaining else remaining) n }

/-- A run that waits for its BRINE ends CANCELLED (R58): its claim is withdrawn. -/
def cancelRun (s : State) : State :=
  endRun .cancelled { s with wpu := { s.wpu with waitRegen := none } }

/-- A column leaves the list (R37, R58): the run for it, which has not reached BRINE, is cancelled, and the next head's run starts.
-/
def unlist (c : Column) (s : State) : State :=
  let s1 := { s with sfu := { s.sfu with list := s.sfu.list.filter fun e => decide (e.column ≠ c) } }
  let cancels := match s.sfu.run with
    | some r => s.runActive && decide (r.column = c)
    | none => false
  startRun (if cancels then cancelRun s1 else s1)

/-- Hold on (R37, R38): a pending mark for the service route of a granted fill, HELD at once for any other column. -/
def holdOn (c : Column) (s : State) : State :=
  if s.grantedRoute = some c then writeColumn c { s.col c with holdPending := true } s
  else
    let s1 := putColumn c { s.col c with state := .held, holdReason := some .host } s
    if s.listed c then unlist c s1 else s1

/-- A HELD column given back (R41). -/
def releaseColumn (c : Column) (s : State) : State :=
  let r := s.col c
  if 0 < r.remaining then putColumn c { r with state := .fresh, holdReason := none, btRun := 0 } s
  else appendAutomatic c (putColumn c { r with state := .exhausted, holdReason := none } s)

/-- Hold off (R38, R41). -/
def holdOff (c : Column) (s : State) : State :=
  let r := s.col c
  if r.state = .held then releaseColumn c s
  else if r.holdPending then writeColumn c { r with holdPending := false } s
  else s

/-- The state follows the remaining figure (R40). The second part says that HARD_FILL is to be raised. -/
def followRemaining (c : Column) (s : State) : State × Bool :=
  let r := s.col c
  if r.remaining = 0 ∧ (r.state = .fresh ∨ r.state = .inService) then exhaustColumn c s
  else if 0 < r.remaining ∧ r.state = .exhausted then (putColumn c { r with state := .fresh, btRun := 0 } s, false)
  else (s, false)

/-- R36's steps 1 to 4. -/
def applyColumn (c : Column) (nominal remaining hold : Nat) (s : State) : State :=
  let s1 := writeColumn c ((s.col c).configured nominal remaining) s
  let (s2, hard) := followRemaining c (if hold = 1 then holdOn c s1 else holdOff c s1)
  if hard then raiseOnly .hardFill s2 else s2

/-- SET-COLUMN (R36). -/
def setColumnRequest (column nominal remaining hold : Nat) (s : State) : State × Answer :=
  match Column.ofCode column with
  | none => (s, .refused .field)
  | some c =>
    if 1 < hold then (s, .refused .field)
    else if (s.col c).state = .regenerating then (s, .refused .state)
    else
      let s1 := applyColumn c nominal remaining hold s
      (s1, .ok (.column c (s1.col c)))

/-- The run record as a reply gives it (R60): the fields of 3.2, the stage time in whole seconds. -/
def RunRecord.report (r : RunRecord) : RunReport :=
  { column := r.column, stage := r.stage, restarted := r.restarted, brine := r.brine, slow := r.slow, fast := r.fast
    window := r.window, stageK := r.stageK, targetPulses := r.targetPulses, stagePulses := r.stagePulses
    stageSec := r.stageMs / 1000, brineMl := r.brineMl, salt := r.salt, saltEmpty := r.saltEmpty, outcome := r.outcome }

/-- GET-COLUMNS (R42, R60). -/
def getColumnsRequest (s : State) : State × Answer :=
  let blend := match s.sfu.blend, s.wpu.fillRec with
    | some b, some r => some (b, r.pulses % 32)
    | _, _ => none
  (s, .ok (.columns s.sfu.colA s.sfu.colB s.sfu.pref s.sfu.list blend (s.sfu.run.map RunRecord.report)))

/-! ## SET-REGEN and REGEN-NOW (R46, R47, R59) -/

/-- Switching automatic regeneration on lists an EXHAUSTED column (R47). -/
def listExhausted (c : Column) (s : State) : State :=
  if (s.col c).state = .exhausted then appendList c s else s

/-- SET-REGEN (R59, R47). -/
def setRegenRequest (brine slow fast window automatic : Nat) (s : State) : State × Answer :=
  if 1 < window ∨ 1 < automatic then (s, .refused .field)
  else
    let g : RegenSettings :=
      ⟨clamp 100 600 brine, clamp 60 600 slow, clamp 500 3000 fast, if window = 0 then .anytime else .quiet,
        decide (automatic = 1)⟩
    let s1 := { s with sfu := { s.sfu with settings := g } }
    let s2 := if g.automatic && !s.sfu.settings.automatic then listExhausted .b (listExhausted .a s1) else s1
    (s2, .ok (.regenSettings g))

/-- REGEN-NOW (R46). -/
def regenNowRequest (column : Nat) (s : State) : State × Answer :=
  match Column.ofCode column with
  | none => (s, .refused .field)
  | some c =>
    match (s.col c).state with
    | .inService | .held => (s, .refused .state)
    | .regenerating => (s, .ok (.regenList s.sfu.list))
    | .fresh | .exhausted =>
      let s1 := appendList c s
      (s1, .ok (.regenList s1.sfu.list))

end Sys2Proof.Machine
end

