-- ==== Sys2Proof/Machine/Service.lean ====
section
/-! DEFINITION. Service mode (10.5): ENTER-SERVICE, LEAVE-SERVICE and TEST, and the ends of the service tests. -/

namespace Sys2Proof.Machine

/-! ## The end of a test (R188) -/

/-- The pump test's end, before the heater test's that follows from it: the pump stops (R142). -/
def endOneTest (a : Actuator) (o : TestOutcome) (s : State) : State :=
  if !s.testing a then s
  else
    let s1 := markTestEnded a o s
    match a with
    | .inlet => releaseInlet .test { s1 with wpu := { s1.wpu with waitTest := none } }
    | .drainPump => { s1 with wpu := { s1.wpu with drainPump := false } }
    | .circPump => refreshPump s1
    | .heater => endHeat s1
    | .detergentPump | .rinsePump | .additivePump => stopDoseTest s1
    | .diverter =>
      writeTest .diverter { s1.testEntry .diverter with cam := some s1.hcu.cam }
        { s1 with hcu := { s1.hcu with move := none } }
    | .fan => s1
    | .opener => if s1.dru.issuer = .test then stopMove s1 else s1

/-- A test ends and its owner stops the actuator (R188). The end of the pump test, for any reason, takes the heater test's
requirement away (R142). -/
def endTest (a : Actuator) (o : TestOutcome) (s : State) : State :=
  let s1 := endOneTest a o s
  if a = .circPump ∧ s.testing .circPump then endOneTest .heater .lost s1 else s1

/-- The ten actuators in the order of their codes (R187). -/
def allActuators : List Actuator :=
  [.inlet, .drainPump, .circPump, .heater, .detergentPump, .rinsePump, .additivePump, .diverter, .fan, .opener]

/-- LEAVE-SERVICE ends every running test with outcome LEFT (R186, R188): the heater's before the pump's, so that it is LEFT too. -/
def leaveTests (s : State) : State :=
  allActuators.foldl (fun acc a => endTest a .left acc) (endTest .heater .left s)

/-- The heater test loses its door (R188): the door class leaves CLOSED, or the latch reads released. -/
def loseDoor (s : State) : State := if s.doorShut then s else endTest .heater .lost s

/-! ## ENTER-SERVICE and LEAVE-SERVICE (R186) -/

/-- ENTER-SERVICE (R186). -/
def enterServiceRequest (s : State) : State × Answer :=
  if s.cdu.mode = .standby ∧ !s.wsc.abortDrain then (setMode .service s, .ok .empty) else (s, .refused .state)

/-- LEAVE-SERVICE (R186). -/
def leaveServiceRequest (s : State) : State × Answer :=
  if s.cdu.mode = .service then (setMode .standby (leaveTests s), .ok .empty) else (s, .refused .state)

/-! ## TEST (R187) -/

/-- A dosing-pump test runs (R97, R187). -/
def State.doseTesting (s : State) : Bool :=
  s.testing .detergentPump || s.testing .rinsePump || s.testing .additivePump

/-- A test of the actuator is refused BUSY (R187): its own test runs, or, for a dosing pump, another dosing pump's. -/
def State.testBusy (s : State) (a : Actuator) : Bool := s.testing a || (a.agent.isSome && s.doseTesting)

/-- An actuator's requirements (R187); the opener's are its command's. -/
def State.testAllowed (s : State) : Actuator → Bool
  | .circPump => s.wpu.waterPresent && decide (s.dru.opener = .retracted)
  | .heater => s.testing .circPump && s.wpu.waterPresent && s.doorShut && decide (s.dru.opener = .retracted)
  | _ => true

/-- The amount in force (R187): clamped for every actuator but the diverter, whose entry shows the amount as the host sent it
(log 39), and the opener, whose amount is its position. -/
def Actuator.amount (a : Actuator) (amount : Nat) : Nat :=
  match a with
  | .diverter | .opener => amount
  | _ => clamp 1 a.limit amount

/-- The entry of a test at its start (R187). -/
def TestEntry.started (amount : Nat) : TestEntry := ⟨true, amount, 0, 0, 0, none, none, none, none⟩

/-- The target of the diverter test's move (R142). -/
def testTarget : Cam → MoveTarget
  | .between => .anyZone
  | .at z => .zone z.next

/-- The owner starts a test (R4, R17, R97, R142, R174); the opener's test starts by its command. -/
def startTest (a : Actuator) (amount : Nat) (s : State) : State :=
  match a with
  | .inlet => claimTest amount s
  | .drainPump => { s with wpu := { s.wpu with drainPump := true } }
  | .circPump => refreshPump s
  | .heater => requestTestHeat s
  | .detergentPump => startDoseTest .detergent amount s
  | .rinsePump => startDoseTest .rinseAid amount s
  | .additivePump => startDoseTest .additive amount s
  | .diverter =>
    { s with hcu := { s.hcu with move := some ⟨testTarget s.hcu.cam, 0, true⟩, pendingMove := none, watch := .none } }
  | .fan | .opener => s

/-- An opener test (R187): its command's refusal is the test's. -/
def testOpener (cmd : OpenerCmd) (amount : Nat) (s : State) : State × Answer :=
  match commandOpener .test cmd (writeTest .opener (TestEntry.started amount) s) with
  | (_, .busy) => (s, .refused .busy)
  | (_, .state) => (s, .refused .state)
  | (s1, _) => (s1, .ok .empty)

/-- TEST (R187): the mode, the fields, the running tests and the requirement, in this order (log 14). -/
def testRequest (actuator amount : Nat) (s : State) : State × Answer :=
  if s.cdu.mode ≠ .service then (s, .refused .state)
  else
    match Actuator.ofCode actuator with
    | none => (s, .refused .field)
    | some a =>
      if a = .opener ∧ (OpenerCmd.ofCode amount).isNone then (s, .refused .field)
      else if s.testBusy a then (s, .refused .busy)
      else if !s.testAllowed a then (s, .refused .state)
      else
        match a, OpenerCmd.ofCode amount with
        | .opener, some cmd => testOpener cmd amount s
        | _, _ => (startTest a (a.amount amount) (writeTest a (TestEntry.started (a.amount amount)) s), .ok .empty)

/-! ## The running-out of a test (R188) -/

/-- The seconds of a test run (R187): the inlet's only from its grant. -/
def State.testCounts (s : State) (a : Actuator) : Bool :=
  s.testing a &&
    match a with
    | .inlet => decide (s.wpu.grant = some .test)
    | .drainPump | .circPump | .heater | .fan => true
    | .detergentPump | .rinsePump | .additivePump | .diverter | .opener => false

/-- A timed test has run its amount (R188). -/
def completeTest (a : Actuator) (s : State) : State :=
  if s.testCounts a && decide ((s.testEntry a).amount * 1000 ≤ (s.testEntry a).progressMs) then endTest a .completed s else s

/-- The water-present switch has read open for 2 s (R188): the pump test and the heater test lose their water. -/
def loseWater (s : State) : State :=
  if s.wpu.waterPresent = false ∧ 2000 ≤ s.cdu.dryWaterMs then endTest .heater .lost (endTest .circPump .lost s) else s

/-- The strokes of a dosing-pump test have run (R97, R188). -/
def completeDoseTest (s : State) : State :=
  match s.doseTestDone with
  | some a => endTest a.actuator .completed s
  | none => s

/-- The diverter test's move has ended (R142, R188). -/
def endDiverterTest (arrived : Bool) (s : State) : State :=
  endTest .diverter .completed (writeTest .diverter { s.testEntry .diverter with arrived := some arrived } s)

end Sys2Proof.Machine
end

