-- ==== Sys2Proof/Machine/Program.lean ====
section
/-! DEFINITION. The host's requests on the program, the conditions and the modes (chapters 6 and 10): the phase queue, START to
ABORT, EDIT-CONTEXT, the policy, CLEAR-CONDITIONS and LEAVE-SAFE. -/

namespace Sys2Proof.Machine

/-! ## The queue (R101 to R104) -/

/-- A phase id is used by a queued record or by the active phase (R102). -/
def State.idUsed (s : State) (id : Nat) : Bool :=
  (s.wsc.queue.any fun r => decide (r.id = id)) ||
    match s.wsc.active with
    | some a => decide (a.record.id = id)
    | none => false

/-- QUEUE-PHASE (R101, R102). -/
def queuePhaseRequest (raw : RawPhase) (s : State) : State × Answer :=
  match raw.check with
  | none => (s, .refused .field)
  | some r =>
    if s.cdu.mode ≠ .standby ∧ s.cdu.mode ≠ .run then (s, .refused .state)
    else if 12 ≤ s.wsc.queue.length then (s, .refused .full)
    else if s.idUsed r.id then (s, .refused .duplicate)
    else
      ({ s with wsc := { s.wsc with queue := s.wsc.queue ++ [r] } }, .ok (.queued (s.wsc.queue.length + 1)))

/-- CANCEL-PHASE (R103). -/
def cancelPhaseRequest (id : Nat) (s : State) : State × Answer :=
  if id = 0 ∨ 255 < id then (s, .refused .field)
  else if (match s.wsc.active with
      | some a => decide (a.record.id = id)
      | none => false) then (s, .refused .state)
  else if s.wsc.queue.any fun r => decide (r.id = id) then
    let q := s.wsc.queue.filter fun r => decide (r.id ≠ id)
    ({ s with wsc := { s.wsc with queue := q } }, .ok (.queued q.length))
  else (s, .refused .notFound)

/-- GET-PHASES (R104, R201). -/
def getPhasesRequest (s : State) : State × Answer :=
  (s, .ok (.phases s.wsc.queue.length (s.wsc.queue.map PhaseRecord.bytes)
    (s.wsc.active.map fun a => (a.record.id, a.record.kind))))

/-! ## START (R105) -/

/-- START is accepted (R105). -/
def State.startable (s : State) : Bool :=
  decide (s.cdu.mode = .standby) && !s.wsc.abortDrain && !s.wsc.queue.isEmpty && s.doorShut &&
    decide (s.dru.opener = .retracted) && s.nothingActive

/-- START's actions (R105): mode RUN, a clear program context, and the head record. -/
def startProgram (s : State) : State :=
  let s1 := setMode .run s
  let s2 := { s1 with wsc := { s1.wsc with ctx := some ⟨none, false, 0⟩, wash := .running, cause := none } }
  startQueue s2.wsc.queue s2

/-- START (R105). -/
def startRequest (s : State) : State × Answer :=
  if s.startable then (startProgram s, .ok .empty) else (s, .refused .state)

/-! ## PAUSE, RESUME, ABORT (R119, R121, R122, R124, R125) -/

/-- PAUSE (R119). -/
def pauseRequest (s : State) : State × Answer :=
  if s.cdu.mode = .run then (holdWash .hostPause s, .ok .empty) else (s, .refused .state)

/-- RESUME (R121, R122). -/
def resumeRequest (s : State) : State × Answer :=
  if s.resumable then (resumeWash s, .ok .empty) else (s, .refused .state)

/-- ABORT's steps 4 and 5 by the stage (R124). -/
def abortStage (s : State) : State :=
  match s.wsc.active with
  | none => s
  | some a =>
    match a.stage with
    | .drain => stopDrain s
    | .drying => abortDry s
    | _ => s

/-- The abort drain starts where the water-present switch reads closed (R124, R125). -/
def startAbortDrain (s : State) : State :=
  if s.wpu.waterPresent then startDrain { s with wsc := { s.wsc with abortDrain := true } } else s

/-- ABORT's actions (R124). -/
def abortProgram (s : State) : State :=
  let s1 := abortStage (abandonFill (stopHeat (discardDoses s)))
  let total := s1.waterTotal
  let s2 := { s1 with wsc := { s1.wsc with queue := [], active := none, ctx := none, wash := .idle, cause := none } }
  let s3 := setAttention .program (.program .aborted total) (setMode .standby s2)
  startAbortDrain (windowTest s3)

/-- ABORT (R124). -/
def abortRequest (s : State) : State × Answer :=
  if s.cdu.mode = .run then (abortProgram s, .ok .empty) else (s, .refused .state)

/-! ## The held context (R120) and EDIT-CONTEXT (R123) -/

/-- The fill record of a phase (R120): the open one, or the closed one where the phase's fill has closed. -/
def State.heldFill (s : State) (a : ActivePhase) : Option HeldFill :=
  match s.wpu.fillRec with
  | some r => some ⟨true, r.pulses, r.targetPulses⟩
  | none => if a.filled then s.phaseFill.map fun r => ⟨false, r.pulses, r.targetPulses⟩ else none

/-- The held context as its owners hold it (R120); absent while the wash is not HELD. Its fill seconds are the one count of the fill
time limit: where the phase has opened no fill record they show what the last record left (log 41). -/
def State.heldContext (s : State) : Option HeldContext :=
  match s.wsc.wash, s.wsc.active with
  | .held, some a =>
    some
      { phaseId := a.record.id, kind := a.record.kind, stage := a.stage, cause := s.wsc.cause, holdSec := a.holdSec
        target := a.target, detergentAsked := a.detergentAsked, rinseAsked := a.rinseAsked
        fill := s.heldFill a
        fillSec := s.wpu.fillMs / 1000
        windowPos := s.wpu.fillRec.map fun r => r.pulses % 32
        live := s.dsu.live, ended := s.dsu.ended, heatSec := s.hcu.heatMs / 1000, zone := s.hcu.zone
        periodSec := s.hcu.periodMs / 1000, dropped := s.hcu.dropped, circSec := s.hcu.circMs / 1000 }
  | _, _ => none

/-- An operation's value is in its range (R123). -/
def editValueOk : Nat → Nat → Bool
  | 0, v => decide (v ≤ 3600)
  | 1, v => decide (v ≤ 2)
  | 2, v => decide (v = 0)
  | _, _ => false

/-- Operation 0 (R123): a value above 0 makes the countdown run again. -/
def setHoldSeconds (v : Nat) (s : State) : State :=
  editActive (fun a => { a with holdSec := v, holdFracMs := 0, holdEnded := a.holdEnded && decide (v = 0) }) s

/-- Operation 2's actions (R123). Several doses end in the waiting list's order (log 35). -/
def skipToDrain (s : State) : State :=
  let s1 := abandonFill s
  let s2 := s1.dsu.live.foldl (fun acc r => dropDose r.agent acc) s1
  editActive (fun a => { a with stage := .drain, filled := a.filled || s.wpu.fillRec.isSome }) s2

/-- An operation on a held water phase that is not in DRAIN (R123). -/
def editHeld (a : ActivePhase) (operation value : Nat) (s : State) : State × Answer :=
  match operation, Agent.ofCode value with
  | 0, _ =>
    let s1 := setHoldSeconds value s
    (s1, .ok (.held s1.heldContext))
  | 1, some g =>
    if s.hasDose g a.record.id then
      let s1 := dropDose g s
      (s1, .ok (.held s1.heldContext))
    else (s, .refused .notFound)
  | _, _ =>
    let s1 := skipToDrain s
    (s1, .ok (.held s1.heldContext))

/-- EDIT-CONTEXT (R123). The fields are tested before the wash: R123 gives the two refusals no order (log 40). -/
def editContextRequest (operation value : Nat) (s : State) : State × Answer :=
  if !editValueOk operation value then (s, .refused .field)
  else
    match s.wsc.wash, s.wsc.active with
    | .held, some a =>
      if !a.record.kind.isWater then (s, .refused .state)
      else if a.stage = .drain then
        if operation = 2 then (s, .ok (.held s.heldContext)) else (s, .refused .state)
      else editHeld a operation value s
    | _, _ => (s, .refused .state)

/-- The active phase as a reply gives it (R126, R201). -/
def ActivePhase.report (a : ActivePhase) : ActiveReport :=
  { record := a.record.bytes, stage := a.stage, holdSec := a.holdSec, target := a.target, detergentAsked := a.detergentAsked
    rinseAsked := a.rinseAsked }

/-- GET-CONTEXT (R126). -/
def getContextRequest (s : State) : State × Answer :=
  (s, .ok (.context s.wsc.wash s.wsc.abortDrain (s.wsc.active.map ActivePhase.report) s.wsc.ctx s.heldContext))

/-! ## Policy, clearing and reading of conditions (R179 to R181) -/

/-- SET-POLICY (R179). -/
def setPolicyRequest (traps : CondSet) (s : State) : State × Answer :=
  let t := traps &&& trappableConditions
  ({ s with cdu := { s.cdu with traps := t } }, .ok (.conditionSet t))

/-- CLEAR-CONDITIONS (R180). -/
def clearConditionsRequest (causes flags : CondSet) (s : State) : State × Answer :=
  let c := s.cdu.causes &&& ~~~(causes &&& allConditions)
  let f := s.cdu.flags &&& ~~~(flags &&& allConditions)
  ({ s with cdu := { s.cdu with causes := c, flags := f } }, .ok (.conditionSets c f))

/-- A service test entry as a reply gives it (R181, R188): the time run in whole seconds. -/
def TestEntry.report (t : TestEntry) : TestReport :=
  { running := t.running, amount := t.amount, progressSec := t.progressMs / 1000, driven := t.driven, sensed := t.sensed
    arrived := t.arrived, cam := t.cam, rod := t.rod, outcome := t.outcome }

/-- GET-CONDITIONS (R181). -/
def getConditionsRequest (s : State) : State × Answer :=
  (s, .ok (.conditions s.cdu.mode s.cdu.causes s.cdu.flags s.cdu.traps s.cdu.counts
    (s.cdu.safeSet.map fun c => (c, s.activeTest c)) (s.cdu.tests.map TestEntry.report)))

/-! ## LEAVE-SAFE (R185) -/

/-- LEAVE-SAFE is accepted (R185). -/
def State.safeLeavable (s : State) : Bool :=
  decide (s.cdu.mode = .safe) && s.cdu.safeSet.all fun c => !s.activeTest c

/-- LEAVE-SAFE's actions (R185): the inhibit is lifted and SAFE draining ends before the Softener Unit's run starts (log 11). -/
def leaveSafe (s : State) : State :=
  let m : Mode := if s.wsc.wash = .held then .run else .standby
  let s1 := { s with
    cdu := { s.cdu with safeSet := [] }
    wpu := { s.wpu with inhibit := false, drainPump := false } }
  startRun (setMode m s1)

/-- LEAVE-SAFE (R185). -/
def leaveSafeRequest (s : State) : State × Answer :=
  if s.safeLeavable then (leaveSafe s, .ok .empty) else (s, .refused .state)

end Sys2Proof.Machine
end

