-- ==== Sys2Proof/Machine/Link.lean ====
section
/-! DEFINITION. The Link Port (chapter 11): the attention sources, GET-STATUS, the routing of a request to its owner, receive
buffering, the receiver, and the replies' frames. -/

namespace Sys2Proof.Machine

/-! ## Attention (R195 to R198) -/

/-- A source is pending (R195). -/
def State.pendingSource (s : State) (src : Source) : Bool := (s.lkp.sources[src.idx]).pending

/-- The source at a place of the scan: `k` places after the last latched number, wrapping from 11 to 0 (R196). -/
def scanPlace (last : Source) (k : Nat) : Option Source := Source.ofCode ((last.idx.val + k) % 12)

/-- The first pending source after the last latched number (R196). -/
def State.scanned (s : State) : Option Source :=
  (List.range 12).findSome? fun k =>
    (scanPlace s.lkp.lastLatched (k + 1)).bind fun src => if s.pendingSource src then some src else none

/-- The scanner runs (R196): while the latch is empty, and when the line has been low for its 1 ms. -/
def scanAttention (s : State) : State :=
  if s.lkp.latch.isSome ∨ s.lkp.lineLowMs = 0 then s
  else
    match s.scanned with
    | some src => { s with lkp := { s.lkp with latch := some src, lastLatched := src } }
    | none => s

/-- The summary's bytes (11.4). -/
def Summary.bytes : Summary → List Byte
  | .mode m => [m.code]
  | .condition c => be1 c.code
  | .phase id => be1 id
  | .program o total => (match o with | .completed => 0 | .aborted => 1) :: be4 total
  | .dose a st => [a.code, Config.doseStateCode st]
  | .column c st => [c.code, Config.columnStateCode st]
  | .regen c o => [c.code, Config.runOutcomeCode o]
  | .supply e st => [e.code, Config.supplyStateCode st]
  | .door c latched => [Config.doorClassCode c, Config.latchCode latched]
  | .opener cmd o => [(match cmd with | .retract => 0 | .extend => 1), Config.moveOutcomeCode o]
  | .dry o => [Config.dryOutcomeCode o]
  | .fill id o => be1 id ++ [match o with | .complete => 1 | .shortAccepted => 2 | .abandoned => 3]

/-- Five bytes: a summary padded with 00h (R197). -/
def padSummary (sm : Option Summary) : List Byte :=
  ((match sm with | some x => x.bytes | none => []) ++ [0, 0, 0, 0, 0]).take 5

/-- The latched source, while its bit is set (R197). -/
def State.offered (s : State) : Option Source := s.lkp.latch.filter s.pendingSource

/-- GET-ATTENTION (R197). -/
def getAttentionRequest (s : State) : State × Answer :=
  match s.offered with
  | some src => (s, .ok (.bytes (be1 src.idx.val ++ padSummary (s.lkp.sources[src.idx]).summary)))
  | none => (s, .ok (.bytes (0xFF :: padSummary none)))

/-- The pending set as a word: bit n stands for source n (R198). -/
def State.pendingWord (s : State) : Nat :=
  (List.range 12).foldl (fun acc n => match Source.ofCode n with
    | some src => if s.pendingSource src then acc + 2 ^ n else acc
    | none => acc) 0

/-- A source's pending bit is cleared (R198). -/
def clearPending (src : Source) (s : State) : State :=
  { s with
    lkp := { s.lkp with sources := s.lkp.sources.set src.idx { s.lkp.sources[src.idx] with pending := false } } }

/-- The latch is emptied (R196, R198): a 1 ms gap is owed where other sources are pending. -/
def emptyLatch (s : State) : State :=
  { s with lkp := { s.lkp with latch := none, lineLowMs := if s.scanned.isSome then 0 else 1 } }

/-- ACK-ATTENTION (R198). -/
def ackAttentionRequest (source : Nat) (s : State) : State × Answer :=
  match Source.ofCode source with
  | none => (s, .refused .field)
  | some src =>
    let s1 := clearPending src s
    let s2 := if s.lkp.latch = some src then emptyLatch s1 else s1
    (s2, .ok (.bytes (be2 s2.pendingWord)))

/-! ## GET-STATUS (R200) -/

/-- A byte of bits, the first the least significant. -/
def packBits (bs : List Bool) : Nat := bs.foldr (fun b acc => acc * 2 + b.toNat) 0

/-- The wash state's code (R200). -/
def WashState.code : WashState → Nat
  | .idle => 0
  | .running => 1
  | .held => 2

/-- The stage's code (R200). -/
def Stage.code : Stage → Nat
  | .fill => 1
  | .heat => 2
  | .hold => 3
  | .sense => 4
  | .drain => 5
  | .drying => 6
  | .done => 7

/-- The grantee's code (R200). -/
def grantCode : Option Claimant → Nat
  | none => 0
  | some .fill => 1
  | some .regen => 2
  | some .test => 3

/-- A zone's code (R200): 0 for none is the table's, and the others are those of the cam's field in the same byte (DEDUCED, log
46). -/
def zoneCode : Option Zone → Nat
  | none => 0
  | some .lower => 1
  | some .upper => 2
  | some .top => 3

/-- The heat request's code (R200). -/
def heatCode : Option HeatRequest → Nat
  | none => 0
  | some r =>
    match r.mode with
    | .heat => 1
    | .maintain => 2
    | .test => 3

/-- An opener command's code in the drying run record (R200). -/
def cmdCode : OpenerCmd → Nat
  | .extend => 1
  | .retract => 2

/-- A move outcome's code in the drying run record (R200). -/
def outcomeCode : MoveOutcome → Nat
  | .done => 1
  | .fault => 2
  | .stopped => 3

/-- The drying run record's 22 bytes (R200). -/
def DryRun.bytes (r : DryRun) : List Byte :=
  [Config.dryKindCode r.kind, Config.dryStateCode r.state] ++ be2 (r.stateMs / 1000) ++ be2 r.dryTime ++
  be2 (r.dryMs / 1000) ++ be1 r.humLow ++ be2o r.rest ++
  be1 (packBits [r.extended, r.userOpened, r.degraded, r.suspended, r.fanDemand, r.settings.fan]) ++
  be1 (match r.outstanding with
    | none => 0
    | some o => cmdCode o.cmd + (if o.moving then 4 else 0)) ++
  be1 (match r.pendingEnd with
    | none => 0
    | some e => cmdCode e.cmd + 4 * outcomeCode e.outcome) ++
  [match r.outcome with
    | none => 0
    | some o => Config.dryOutcomeCode o] ++
  be2 r.settings.openDelay ++ be2 r.settings.openTemp ++ be2 r.settings.dryTime ++ be1 r.settings.humidity

/-- A humidity as one byte (R200). -/
def humidityByte (h : Int) : List Byte := if 0 ≤ h then be1 h.toNat else [Config.beyond8 h.natAbs]

/-- GET-STATUS's offsets 0 to 37 (R200): mode, wash, inlet, water account. -/
def State.statusWater (s : State) : List Byte :=
  [s.cdu.mode.code] ++ be1 s.wsc.wash.code ++
  be1 (match s.wsc.active with
    | some a => a.record.id
    | none => 0) ++
  be1 (match s.wsc.active with
    | some a => a.stage.code
    | none => 0) ++
  be1 (packBits [s.wpu.waterPresent, s.wpu.overfillClosed, s.wpu.leakWet, s.wsc.abortDrain, s.wpu.valveOpen,
    s.wpu.drainPump, s.wpu.inhibit]) ++
  be1 (grantCode s.wpu.grant +
    16 * packBits [s.wpu.waitFill.isSome, s.wpu.waitRegen.isSome, s.wpu.waitTest.isSome]) ++
  word48 s.wpu.total ++ word48 s.wpu.fillTotal ++ word48 s.wpu.regenTotal ++ word48 s.wpu.serviceCount ++
  word48 s.wpu.unattributed ++ be2 (min 65535 s.wpu.window)

/-- GET-STATUS's offsets 38 to 57 (R200): heat and circulation. -/
def State.statusHeat (s : State) : List Byte :=
  be2s s.hcu.temp ++
  be1 (packBits [!tempInRange s.hcu.temp] + 2 * heatCode s.hcu.heat + 8 * packBits [s.hcu.energised]) ++
  be2 (match s.hcu.heat with
    | some r => r.target.toNat
    | none => 0) ++
  be1 s.hcu.level ++
  be1 (s.hcu.demand.getD 0 + 4 * packBits [s.hcu.pumpRuns]) ++
  be1 (zoneCode s.hcu.cam.zone + 4 * packBits [s.hcu.move.isSome] + 8 * zoneCode s.hcu.zone +
    32 * packBits [s.hcu.fixed, s.hcu.checking]) ++
  be1 s.hcu.mask ++ be2 s.hcu.lowerArm.average ++ be2 s.hcu.upperArm.average ++ be2 s.hcu.lastMean ++
  (match s.hcu.lastClass with
    | some c => be1 c
    | none => [0xFF]) ++
  be2 (s.hcu.circMs / 1000) ++ be2 (s.hcu.heatMs / 1000)

/-- GET-STATUS's offsets from 58 (R200): the cabinet and the drying run record. -/
def State.statusDry (s : State) : List Byte :=
  be2s s.dyc.cabTemp ++ humidityByte s.dyc.cabHum ++
  be1 (packBits [!tempInRange s.dyc.cabTemp, !humInRange s.dyc.cabHum, s.fanRuns, s.dyc.run.isSome]) ++
  match s.dyc.run with
  | some r => r.bytes
  | none => []

/-- GET-STATUS's payload (R200). -/
def State.statusBytes (s : State) : List Byte := s.statusWater ++ s.statusHeat ++ s.statusDry

/-- GET-STATUS (R200). -/
def getStatusRequest (s : State) : State × Answer := (s, .ok (.bytes s.statusBytes))

/-! ## RESET (R199) -/

/-- RESET is answered OK, and takes effect when that reply has been sent (R199). -/
def resetRequest (s : State) : State × Answer := ({ s with lkp := { s.lkp with resetArmed := true } }, .ok .empty)

/-! ## Routing (R192) -/

/-- The owner of a request handles it (R192, 11.5). A command that is no request does not come from a frame. -/
def handle (i : Instr) (s : State) : State × Answer :=
  match i with
  | .setWater k hRaw hT vRef limit => setWaterRequest k hRaw hT vRef limit s
  | .setColumn column nominal remaining hold => setColumnRequest column nominal remaining hold s
  | .setRegen brine slow fast window automatic => setRegenRequest brine slow fast window automatic s
  | .setSupply entry capacity estimate low stroke => setSupplyRequest entry capacity estimate low stroke s
  | .loadCurve points => loadCurveRequest points s
  | .loadSoil thresholds factors => loadSoilRequest thresholds factors s
  | .setPolicy traps => setPolicyRequest traps s
  | .setDry delay temp time humidity fan => setDryRequest delay temp time humidity fan s
  | .queuePhase raw => queuePhaseRequest raw s
  | .cancelPhase id => cancelPhaseRequest id s
  | .start => startRequest s
  | .pause => pauseRequest s
  | .resume => resumeRequest s
  | .abort => abortRequest s
  | .editContext operation value => editContextRequest operation value s
  | .clearConditions causes flags => clearConditionsRequest causes flags s
  | .regenNow column => regenNowRequest column s
  | .opener position => openerRequest position s
  | .enterService => enterServiceRequest s
  | .leaveService => leaveServiceRequest s
  | .test actuator amount => testRequest actuator amount s
  | .leaveSafe => leaveSafeRequest s
  | .reset => resetRequest s
  | .getStatus => getStatusRequest s
  | .getPhases => getPhasesRequest s
  | .getContext => getContextRequest s
  | .getColumns => getColumnsRequest s
  | .getSupply => getSupplyRequest s
  | .getFills index => getFillsRequest index s
  | .getDoses => getDosesRequest s
  | .getConditions => getConditionsRequest s
  | .getDoor => getDoorRequest s
  | .getAttention => getAttentionRequest s
  | .ackAttention source => ackAttentionRequest source s
  | _ => (s, .refused .unknown)

/-! ## Serving (R192 to R194) -/

/-- A valid frame restarts the supervision timer while it runs (R194). -/
def superviseFrame (s : State) : State :=
  { s with lkp := { s.lkp with supervision := s.lkp.supervision.map fun _ => 0 } }

/-- A request is handled by its owner, and its reply is being sent (R192, R193). -/
def serve (kind : Byte) (h : State → State × Answer) (s : State) : State :=
  let p := h s
  { p.1 with lkp := { p.1.lkp with inService := some kind, sending := some ⟨kind, p.2⟩ } }

/-- A request that the host sends whole (log 1): a valid frame, handled by its owner. -/
def serveRow (kind : Byte) (h : State → State × Answer) (s : State) : State := serve kind h (superviseFrame s)

/-- A request's kind and its handling, by R192's tests in order. -/
def answerDecoded : Decoded → State → State × Answer
  | .unknown, s => (s, .refused .unknown)
  | .badLength, s => (s, .refused .field)
  | .request i, s => handle i s

/-- A complete frame is served (R191, R192). -/
def serveFrame (f : Frame) (s : State) : State :=
  match f with
  | .lengthFailure => serve 0 (fun x => (x, .refused .length)) s
  | .crcFailure => serve 0 (fun x => (x, .refused .frame)) s
  | .valid kind payload => serve kind (answerDecoded (decodeRequest kind payload)) s

/-- The kind that the overrun slot records (R193). -/
def Frame.kind : Frame → Byte
  | .valid kind _ => kind
  | .lengthFailure | .crcFailure => 0

/-- The port is busy (R193): a frame is in service, or the OVERRUN refusal that came after one is being sent. -/
def LinkPort.busy (l : LinkPort) : Bool := l.inService.isSome || l.sending.isSome

/-- A complete frame is buffered while the port is busy (R193). -/
def bufferFrame (f : Frame) (s : State) : State :=
  if s.lkp.waiting.isNone then { s with lkp := { s.lkp with waiting := some f } }
  else if s.lkp.overrun.isNone then { s with lkp := { s.lkp with overrun := some f.kind } }
  else s

/-- A complete frame takes its place in the receive buffering (R193). A waiting frame still occupies its place while the OVERRUN
refusal is being sent (11.8, log 9). -/
def frameArrives (f : Frame) (s : State) : State :=
  if s.lkp.busy then bufferFrame f s else serveFrame f s

/-- A complete frame, and the supervision timer's restart by a valid one (R193, R194). -/
def takeFrame (f : Frame) (s : State) : State :=
  frameArrives f (match f with
    | .valid _ _ => superviseFrame s
    | .lengthFailure | .crcFailure => s)

/-! ## The receiver (R191) -/

/-- A frame whose last byte has come: valid where the CRC matches (R191). `bytes` are those after the start byte. -/
def completeFrame (bytes : List Byte) : Frame :=
  match bytes.dropLast, bytes.getLast? with
  | len :: kind :: payload, some crc => if crc8 (len :: kind :: payload) = crc then .valid kind payload else .crcFailure
  | _, _ => .crcFailure

/-- Writes the receiver; each byte starts the 10 ms gap again (R191). -/
def setReceiver (r : Receiver) (s : State) : State := { s with lkp := { s.lkp with rx := r, gapMs := 0 } }

/-- A byte inside a frame (R191). -/
def takeInside (bytes : List Byte) (b : Byte) (s : State) : State :=
  match bytes with
  | [] =>
    if b.toNat = 0 ∨ 64 < b.toNat then takeFrame .lengthFailure (setReceiver .outside s)
    else setReceiver (.inside [b]) s
  | len :: _ =>
    let all := bytes ++ [b]
    if all.length = len.toNat + 2 then takeFrame (completeFrame all) (setReceiver .outside s)
    else setReceiver (.inside all) s

/-- A byte arrives (R191). -/
def takeByte (b : Byte) (s : State) : State :=
  match s.lkp.rx with
  | .outside => if b = 0xA5 then setReceiver (.inside []) s else s
  | .inside bytes => takeInside bytes b s

/-- More than 10 ms have passed inside a frame (R191). -/
def dropPartial (s : State) : State :=
  match s.lkp.rx with
  | .outside => s
  | .inside _ => setReceiver .outside s

/-! ## The end of a reply (R193) -/

/-- The waiting frame, if there is one, becomes the frame in service and is handled (R193's second action). -/
def serveWaiting (s : State) : State :=
  let s1 := { s with lkp := { s.lkp with inService := none, sending := none, waiting := none } }
  match s.lkp.waiting with
  | some f => serveFrame f s1
  | none => s1

/-- The last byte of a reply has been sent (R193). After the reply of the frame in service, an OVERRUN refusal of the recorded kind is
sent where the overrun slot is full, and the slot is emptied; the waiting frame follows when that refusal has been sent (11.8, log 9),
and at once where the slot is empty. -/
def nextFrame (s : State) : State :=
  match s.lkp.inService, s.lkp.overrun with
  | some _, some kind =>
    { s with lkp := { s.lkp with inService := none, sending := some ⟨kind, .refused .overrun⟩, overrun := none } }
  | _, _ => serveWaiting s

/-! ## Reply frames (11.1, R192) -/

/-- The payload of an OK reply's data, where the manual gives its layout (log 18). -/
def ReplyData.payload : ReplyData → Option (List Byte)
  | .empty => some []
  | .bytes bs => some bs
  | .conditionSet w => some (word32 w)
  | .conditionSets c f => some (word32 c ++ word32 f)
  | _ => none

/-- A reply's frame: kind plus 80h with its data, or kind FFh with the request's kind and the refusal code (R192). -/
def Reply.frame (r : Reply) : Option (List Byte) :=
  match r.answer with
  | .refused c => some (frameBytes 0xFF [r.kind, c.code])
  | .ok d => d.payload.map fun p => frameBytes (r.kind + 0x80) p

end Sys2Proof.Machine
end

