-- ==== Sys2Proof/Machine/Reset.lean ====
section
/-! DEFINITION. The water temperature sample (R128), and the resets of either kind with their first scans (R18, R64, R128, R199). -/

namespace Sys2Proof.Machine

/-! ## The temperature sample (R128, R129, R133) -/

/-- The two conditions of a sample (R128). -/
def HeatUnit.sampleRaises (h : HeatUnit) (reading : Int) : List Condition :=
  (if h.sensorFails reading then [.sensorFault] else []) ++ (if h.overheats reading then [.overtemp] else [])

/-- The reports of a sample (R133): temperature reached, or the band. -/
def reportSample (s : State) : State :=
  if s.reachesTarget then temperatureReached (markReached s) else reportBand s

/-- A sample of the water temperature: the reading, its conditions, the power level, the reports (R128, R129, R133; log 12). -/
def sampleTemperature (reading : Int) (s : State) : State :=
  reportSample (computeLevel (raiseAll (s.hcu.sampleRaises reading) (takeReading reading s)))

/-! ## First scans (R18, R64) -/

/-- The cap and low readings of an entry. -/
def Inputs.cap (i : Inputs) : Entry → Bool
  | .detergent => i.detergentCapOpen
  | .rinseAid => i.rinseCapOpen
  | .additive => i.additiveCapOpen
  | .salt => i.saltCapOpen

/-- The low reading of an entry. -/
def Inputs.low (i : Inputs) : Entry → Bool
  | .detergent => i.detergentLow
  | .rinseAid => i.rinseLow
  | .additive => i.additiveLow
  | .salt => i.saltLow

/-- A cap reading that differs from its field is a settled change (R64). -/
def settleCap (e : Entry) (isOpen : Bool) (s : State) : State :=
  if (s.entry e).capOpen = isOpen then s else if isOpen then openCap e s else closeCap e s

/-- A low reading that differs from its field is a settled change (R64). -/
def settleLow (e : Entry) (low : Bool) (s : State) : State :=
  if (s.entry e).low = low then s else if low then turnLow e s else turnNotLow e s

/-- The first scan of an entry's switches, the cap before the low switch (log 10). -/
def scanEntry (i : Inputs) (e : Entry) (s : State) : State := settleLow e (i.low e) (settleCap e (i.cap e) s)

/-- The first scan of the four entries, in the order DETERGENT, RINSE_AID, ADDITIVE, SALT (log 10). After a power-on reset the cap
fields already hold their readings (R64). -/
def scanSupply (i : Inputs) (s : State) : State :=
  scanEntry i .salt (scanEntry i .additive (scanEntry i .rinseAid (scanEntry i .detergent s)))

/-- The first scan of the overfill switch and the leak float (R18). -/
def scanWater (i : Inputs) (s : State) : State :=
  let s1 := { s with wpu := { s.wpu with
    overfillClosed := i.overfillClosed, leakWet := i.leakWet, waterPresent := i.waterPresent } }
  let s2 := if i.overfillClosed then raiseOnly .overfill s1 else s1
  if i.leakWet then raiseOnly .leak s2 else s2

/-- The first scans after a reset of either kind, in this order (log 10): reservoirs, water, temperature. -/
def firstScans (i : Inputs) (s : State) : State := sampleTemperature i.waterTemp (scanWater i (scanSupply i s))

/-! ## The power-on reset (R21, R43, R61, R76, R99, R127, R144, R160, R174, R189, R199) -/

/-- A power-on reset. The waiting commands stay (log 25), and the first scan sets no DOOR attention (log 36). -/
def powerOn (i : Inputs) (s : State) : State := firstScans i (State.atPowerOn s.pending i)

/-! ## The commanded reset (R22, R44, R62, R77, R100, R127, R144, R160, R174, R190, R199) -/

/-- The Water Path Unit's part (R22), with the end of a FILL grant at the columns (R44). -/
def resetWater (s : State) : State :=
  let s1 := closeFill .abandoned s
  let s2 := if s1.wpu.grant = some .fill then endFillGrant s1 else s1
  { s2 with
    wpu := { WaterPath.atPowerOn Config.quietInputs with
      ledger := s2.wpu.ledger, settings := s2.wpu.settings, overfillClosed := s2.wpu.overfillClosed
      leakWet := s2.wpu.leakWet, waterPresent := s2.wpu.waterPresent } }

/-- A run in WAIT_WINDOW ends ABORTED, and its head keeps a clear restart mark (R62). -/
def endWaitingRun (s : State) : State := if s.runActive && !s.runPastWindow then endRun .aborted s else s

/-- The Softener Unit's part (R44, R62). -/
def resetSoftener (s : State) : State :=
  let s1 := if s.runPastWindow then abortRun s else endWaitingRun s
  closeStageValves { s1 with sfu := { s1.sfu with blend := none, blendValve := false } }

/-- The Dosing Unit's part (R100). -/
def resetDosing (s : State) : State :=
  { s with dsu := { Dosing.atPowerOn with curve := s.dsu.curve, soil := s.dsu.soil } }

/-- The other blocks' parts (R127, R144, R160, R174, R190, R199). The first scan sets no DOOR attention (log 36). -/
def resetOthers (i : Inputs) (s : State) : State :=
  { s with
    uptimeMs := 0
    wsc := WashController.atReset
    hcu := HeatUnit.atReset i
    dru := DoorUnit.atReset i
    dyc := { Drying.atPowerOn i with settings := s.dyc.settings }
    cdu := { ConditionUnit.atPowerOn with traps := s.cdu.traps }
    lkp := LinkPort.atReset }

/-- The commanded reset (R199): every block's part, MODE attention, the head's run (R48, R62), then the first scans (log 10). -/
def commandedReset (i : Inputs) (s : State) : State :=
  let s1 := resetOthers i (resetDosing (resetSoftener (resetWater s)))
  firstScans i (startRun (setAttention .mode (.mode .standby) s1))

end Sys2Proof.Machine
end

