-- ==== Sys2Proof/Machine/Events.lean ====
section
/-! DEFINITION. The meanings of the events, one for each row: bytes and timers of the link, pulses, switches, sensors, and the
running-out of the part's own counts. The running-out of a count that does not run has no effect (log 26), nor has that of a count
that has not come to its figure (log 3). -/

namespace Sys2Proof.Machine

/-! ## The link (R191 to R199) -/

/-- UART_BYTE_RECEIVED (R191). -/
def execUartByteReceived (byte : Byte) (s : State) : Host.Outcome State Fault Refusal := .next (takeByte byte s)

/-- INTER_BYTE_TIMEOUT (R191): more than 10 ms since the frame's last byte, counted in whole ones. -/
def execInterByteTimeout (s : State) : Host.Outcome State Fault Refusal :=
  .next (if 10 ≤ s.lkp.gapMs then dropPartial s else s)

/-- REPLY_SENT (R193), of the frame in service or of an OVERRUN refusal, which brings the commanded reset after RESET's reply
(R199). -/
def execReplySent (inputs : Inputs) (s : State) : Host.Outcome State Fault Refusal :=
  .next
    (if !s.lkp.busy then s
     else if s.lkp.inService.isSome ∧ s.lkp.resetArmed then commandedReset inputs s
     else nextFrame s)

/-- SUPERVISION_TIMER_EXPIRY (R194): a timer that a frame has put back to 0 does not expire. -/
def execSupervisionTimerExpiry (s : State) : Host.Outcome State Fault Refusal :=
  .next (if s.supervisionReached then raiseOnly .linkLost s else s)

/-- ATTENTION_SCAN (R196). -/
def execAttentionScan (s : State) : Host.Outcome State Fault Refusal := .next (scanAttention s)

/-- POWER_ON_RESET (R21 and the other chapters' reset rules). -/
def execPowerOnReset (inputs : Inputs) (s : State) : Host.Outcome State Fault Refusal := .next (powerOn inputs s)

/-! ## Water (R6, R9, R13, R16, R18, R19) -/

/-- A fill's pulse (R9): the target test, and then the conditions that the Softener Unit called for. -/
def takeFillPulse (r : FillRecord) (compA compB : Bool) (s : State) : State :=
  let (s1, raises) := fillPulse r compA compB s
  raiseAll raises
    (if r.targetPulses ≤ r.pulses + 1 then fillClosed (closeFill .complete (releaseInlet .fill s1)) else s1)

/-- A pulse is credited by the grant (R6). -/
def creditPulse (compA compB : Bool) (s : State) : State :=
  match s.wpu.grant with
  | some .fill =>
    match s.wpu.fillRec with
    | some r => takeFillPulse r compA compB s
    | none => { s with wpu := { s.wpu with fillTotal := s.wpu.fillTotal + 1 } }
  | some .regen => stagePulse { s with wpu := { s.wpu with regenTotal := s.wpu.regenTotal + 1 } }
  | some .test => { s with wpu := { s.wpu with serviceCount := s.wpu.serviceCount + 1 } }
  | none => unattributedPulse s

/-- FLOW_PULSE (R6). The operands are the levels of the two outlet comparators when the pulse is taken (R35). -/
def execFlowPulse (comparatorA comparatorB : Bool) (s : State) : Host.Outcome State Fault Refusal :=
  .next (creditPulse comparatorA comparatorB (countPulse s))

/-- FILL_SLOW's default action (R13): SHORT_ACCEPTED with at least half the target, else NO_WATER. -/
def fillSlowDefault (s : State) : State :=
  match s.wpu.fillRec with
  | none => s
  | some r =>
    if r.targetPulses ≤ r.pulses * 2 then fillClosed (closeFill .shortAccepted (releaseInlet .fill s))
    else raiseOnly .noWater s

/-- The fill time limit expires (R13): the valve closes, the count goes back to 0 (R12), and FILL_SLOW is raised. -/
def expireFill (s : State) : State :=
  let (s1, ans) := raise .fillSlow { s with wpu := { s.wpu with valveOpen := false, fillMs := 0 } }
  match ans with
  | .default | .none => fillSlowDefault s1
  | .trap | .held => s1

/-- FILL_TIME_LIMIT_EXPIRY (R12, R13). -/
def execFillTimeLimitExpiry (s : State) : Host.Outcome State Fault Refusal :=
  .next (if s.fillLimitReached then expireFill s else s)

/-- A drain's empty count has come to 8 s (R16); it runs while the water-present switch reads open. -/
def State.drainEmpty (s : State) : Bool :=
  !s.wpu.waterPresent &&
    match s.wpu.drain with
    | some d => decide (8000 ≤ d.emptyMs)
    | none => false

/-- DRAIN_EMPTY_COUNT_EXPIRY (R16). -/
def execDrainEmptyCountExpiry (s : State) : Host.Outcome State Fault Refusal :=
  .next (if s.drainEmpty then drainComplete s else s)

/-- A drain's limit of 90 s is reached (R16). -/
def State.drainLimitReached (s : State) : Bool :=
  match s.wpu.drain with
  | some d => decide (90000 ≤ d.limitMs)
  | none => false

/-- DRAIN_LIMIT_EXPIRY (R16). -/
def execDrainLimitExpiry (s : State) : Host.Outcome State Fault Refusal :=
  .next (if s.drainLimitReached then drainFails s else s)

/-- The water-present switch takes a new level (R16, R19, R132, R188). -/
def settleWater (closed : Bool) (s : State) : State :=
  followSafeDrain
    { s with
      wpu := { s.wpu with waterPresent := closed, drain := s.wpu.drain.map fun d => { d with emptyMs := 0 } }
      hcu := { s.hcu with dry := s.dryAfterSwitch closed }
      cdu := { s.cdu with dryWaterMs := 0 } }

/-- WATER_PRESENT_SWITCH_CHANGE (R16, R19, R132, R188). -/
def execWaterPresentSwitchChange (closed : Bool) (s : State) : Host.Outcome State Fault Refusal :=
  .next (if s.wpu.waterPresent = closed then s else settleWater closed s)

/-- OVERFILL_SWITCH_CHANGE (R18). -/
def execOverfillSwitchChange (closed : Bool) (s : State) : Host.Outcome State Fault Refusal :=
  .next
    (if s.wpu.overfillClosed = closed then s
     else
       let s1 := { s with wpu := { s.wpu with overfillClosed := closed } }
       if closed then raiseOnly .overfill s1 else s1)

/-- LEAK_FLOAT_CHANGE (R18, R19). -/
def execLeakFloatChange (wet : Bool) (s : State) : Host.Outcome State Fault Refusal :=
  .next
    (if s.wpu.leakWet = wet then s
     else
       let s1 := followSafeDrain { s with wpu := { s.wpu with leakWet := wet } }
       if wet then raiseOnly .leak s1 else s1)

/-! ## Regeneration (R53, R56) -/

/-- SLOW_RINSE has run its captured setting (R53). -/
def State.slowRinseOver (s : State) : Bool :=
  s.runIn .slowRinse &&
    match s.sfu.run with
    | some r => decide (r.slow * 1000 ≤ r.stageMs)
    | none => false

/-- SLOW_RINSE_END (R53). -/
def execSlowRinseEnd (s : State) : Host.Outcome State Fault Refusal :=
  .next (if s.slowRinseOver then endSlow s else s)

/-- The running stage has come to its limit in stage seconds (R56): 120 s for BRINE and 180 s for FAST_RINSE. -/
def State.stageLimitReached (s : State) : Bool :=
  match s.sfu.run with
  | some r => (s.runIn .brine && decide (120000 ≤ r.stageMs)) || (s.runIn .fastRinse && decide (180000 ≤ r.stageMs))
  | none => false

/-- REGEN_STAGE_LIMIT_EXPIRY (R56). -/
def execRegenStageLimitExpiry (s : State) : Host.Outcome State Fault Refusal :=
  .next (if s.stageLimitReached then faultRun s else s)

/-! ## Dosing (R88 to R90, R97) -/

/-- STROKE_START (R88). -/
def execStrokeStart (s : State) : Host.Outcome State Fault Refusal :=
  .next
    (match s.nextStroke with
     | some (a, serves) => if s.strokeAllowed then driveStroke a serves s else s
     | none => s)

/-- STROKE_DRIVE_OFF (R88): 120 ms have run from the drive start. -/
def execStrokeDriveOff (s : State) : Host.Outcome State Fault Refusal :=
  .next (if 120 ≤ s.dsu.sinceDriveMs then cutDrives s else s)

/-- STROKE_SENSOR_PULSE (R89). -/
def execStrokeSensorPulse (agent : Agent) (s : State) : Host.Outcome State Fault Refusal :=
  .next
    (match s.dsu.flight with
     | some f => if f.agent = agent ∧ f.sensed = false then leaveTest (confirmStroke f s) else s
     | none => s)

/-- The third consecutive miss (R90). -/
def pumpFault (a : Agent) (s : State) : State :=
  let (s1, ans) := raise .dosePumpFault s
  match ans with
  | .default => leaveTest (endDose a .faulted s1)
  | .trap | .held | .none => s1

/-- An unsensed stroke of a record (R89, R90). -/
def missDose (a : Agent) (s : State) : State :=
  let s1 := editDose a (fun r => { r with misses := min 3 (r.misses + 1) }) s
  match s1.liveDose a with
  | some r => if r.misses = 3 then pumpFault a s1 else s1
  | none => s1

/-- The sense window closes (R89): without a report the stroke is unsensed. -/
def closeWindow (f : Flight) (s : State) : State :=
  let s1 := { s with dsu := { s.dsu with flight := none } }
  match f.serves with
  | .test => completeDoseTest s1
  | .record => if f.sensed then s1 else missDose f.agent s1
  | .nobody => s1

/-- SENSE_WINDOW_CLOSE (R88 to R90, R97): 320 ms have run from the drive start. -/
def execSenseWindowClose (s : State) : Host.Outcome State Fault Refusal :=
  .next
    (match s.dsu.flight with
     | some f => if 320 ≤ s.dsu.sinceDriveMs then closeWindow f s else s
     | none => s)

/-! ## Wash and heat (R112, R128 to R141) -/

/-- The countdown stands at 0, run down or owing nothing from its start (R112, log 13), and its end has not been taken. -/
def State.countdownOver (s : State) : Bool :=
  match s.wsc.active with
  | some a => s.runningIn .hold && !a.holdEnded && decide (a.holdSec = 0)
  | none => false

/-- HOLD_COUNTDOWN_END (R112). -/
def execHoldCountdownEnd (s : State) : Host.Outcome State Fault Refusal :=
  .next (if s.countdownOver then endCountdown s else s)

/-- TEMPERATURE_SAMPLE (R128, R129, R133). -/
def execTemperatureSample (reading : Int) (s : State) : Host.Outcome State Fault Refusal :=
  .next (sampleTemperature reading s)

/-- ZERO_CROSSING (R130, R131). -/
def execZeroCrossing (s : State) : Host.Outcome State Fault Refusal := .next (crossZero s)

/-- The dry count has come to 2 s (R132). -/
def DryCount.over : DryCount → Bool
  | .counting ms => decide (2000 ≤ ms)
  | .stopped | .raised => false

/-- DRY_COUNT_EXPIRY (R132). -/
def execDryCountExpiry (s : State) : Host.Outcome State Fault Refusal :=
  .next (if s.hcu.dry.over then raiseOnly .heaterDry { s with hcu := { s.hcu with dry := .raised } } else s)

/-- The heat limit expires (R134, R111). -/
def expireHeat (s : State) : State :=
  let (s1, ans) := raise .heatSlow { s with hcu := { s.hcu with heatMs := 0 } }
  match ans with
  | .default => heatSlowDefault s1
  | .trap | .held | .none => s1

/-- HEAT_LIMIT_EXPIRY (R134). -/
def execHeatLimitExpiry (s : State) : Host.Outcome State Fault Refusal :=
  .next (if s.heatLimitReached then expireHeat s else s)

/-- The cam's reading with a move running (R136, R142): the target stops the motor, other positions are passed. -/
def moveCam (m : DiverterMove) (reading : Cam) (s : State) : State :=
  let s1 := { s with hcu := { s.hcu with cam := reading } }
  if m.target.reachedBy reading then
    if m.forTest then endDiverterTest true { s1 with hcu := { s1.hcu with move := none } }
    else match reading with
      | .at z => arriveAt z s
      | .between => s1
  else s1

/-- CAM_ARRIVAL (R136): the cam switch reads a new position. -/
def execCamArrival (reading : Cam) (s : State) : Host.Outcome State Fault Refusal :=
  .next
    (match s.hcu.move with
     | some m => moveCam m reading s
     | none => camMoved reading s)

/-- The 4 s of a move for the wash expire (R137): the motor stops, the move stays pending, and DIVERTER_FAULT is raised. -/
def expireMove (m : DiverterMove) (s : State) : State :=
  let target := match m.target with
    | .zone z => some z
    | .anyZone => s.hcu.pendingMove
  let (s1, ans) := raise .diverterFault { s with hcu := { s.hcu with move := none, pendingMove := target } }
  match ans with
  | .default => fixAlternation s1
  | .trap | .held | .none => s1

/-- Where the cam reads as the 4 s of a move expire (R137): where it last read, or at the target which it has reached without its own
event having been taken yet. The two events have no order, so a free value decides (log 42). -/
def State.camAtLimit (s : State) (m : DiverterMove) : Cam :=
  match Config.camArrived s.uptimeMs, m.target with
  | none, _ => s.hcu.cam
  | some _, .zone z => .at z
  | some z, .anyZone => .at z

/-- The 4 s of a move have run (R137, R142): the motor stops where the cam reads `reading`. DESIGN CHOICE (log 47): a test's move
that its limit ends is recorded as not arrived, also where the cam reads the target at that moment. -/
def moveTimesOut (m : DiverterMove) (reading : Cam) (s : State) : State :=
  let s1 := { s with hcu := { s.hcu with cam := reading } }
  if m.forTest then endDiverterTest false { s1 with hcu := { s1.hcu with move := none } } else expireMove m s1

/-- DIVERTER_MOVE_TIMEOUT (R137, R142). -/
def execDiverterMoveTimeout (s : State) : Host.Outcome State Fault Refusal :=
  .next
    (match s.hcu.move with
     | some m => if 4000 ≤ m.ms then moveTimesOut m (s.camAtLimit m) s else s
     | none => s)

/-- ZONE_PERIOD_END (R136): the period seconds of the fed zone reach the alternation period, while the alternation is free. -/
def execZonePeriodEnd (s : State) : Host.Outcome State Fault Refusal :=
  .next
    (match s.fedZone with
     | some z =>
       if s.hcu.zone = some z ∧ s.hcu.fixed = false ∧ s.hcu.period * 1000 ≤ s.hcu.periodMs then nextZoneMove z s else s
     | none => s)

/-- ARM_PULSE (R139, R140). -/
def execArmPulse (arm : Arm) (s : State) : Host.Outcome State Fault Refusal := .next (pulseArm arm s)

/-- ARM_CHECK_GRACE_END (R140): checking begins 3 s after the feeding start. -/
def execArmCheckGraceEnd (s : State) : Host.Outcome State Fault Refusal :=
  .next
    (match s.hcu.watch with
     | .grace ms => if 3000 ≤ ms then { s with hcu := { s.hcu with watch := .watching 0 } } else s
     | .watching _ | .none => s)

/-- The gap of a zone's arm reaches 6 s (R140): the watch stops, and ARM_STALLED is raised. -/
def expireGap (z : Zone) (s : State) : State :=
  let (s1, ans) := raise .armStalled { s with hcu := { s.hcu with watch := .none } }
  match ans with
  | .default => dropZone z s1
  | .trap | .held | .none => s1

/-- ARM_GAP_EXPIRY (R140): a gap that a pulse has started again does not expire. -/
def execArmGapExpiry (s : State) : Host.Outcome State Fault Refusal :=
  .next
    (match s.hcu.watch, s.fedZone with
     | .watching gapMs, some z => if 6000 ≤ gapMs then expireGap z s else s
     | _, _ => s)

/-- A turbidity reading of a classification (R141): the eighth gives the class. -/
def takeTurbidity (readings : List Nat) (s : State) : State :=
  let s1 := { s with hcu := { s.hcu with classify := some readings } }
  if 8 ≤ readings.length then takeClass (writeClass readings s1) else s1

/-- TURBIDITY_READING (R141): the readings wait until the circulation seconds reach 60. -/
def execTurbidityReading (count : Nat) (s : State) : Host.Outcome State Fault Refusal :=
  .next
    (match s.hcu.classify with
     | some readings => if 60000 ≤ s.hcu.circMs then takeTurbidity (readings ++ [count]) s else s
     | none => s)

/-! ## Door and opener (R145 to R157) -/

/-- The reports of a hinge or door-switch change (R148, R145): attention, the Wash Controller, the heater test and the Drying
Controller for a change of class; then the Drying Controller for a change of angle (log 20). -/
def reportHinge (before : State) (s : State) : State :=
  let s1 :=
    if s.doorClass = before.doorClass then s
    else
      let s2 := noticeDoor s
      takeDry (classTest (loseDoor (if before.doorClass = .closed then doorOpens s2 else s2)))
  if s.dru.angle = before.dru.angle then s1 else takeDry (pushTest s1)

/-- HINGE_ENCODER_EDGE (R145, R146, R148). -/
def execHingeEncoderEdge (channel : Channel) (rising : Bool) (s : State) : Host.Outcome State Fault Refusal :=
  .next (reportHinge s (takeEdge channel rising s))

/-- DOOR_CLOSED_SWITCH_CHANGE (R147, R148). -/
def execDoorClosedSwitchChange (closed : Bool) (s : State) : Host.Outcome State Fault Refusal :=
  .next (if s.dru.doorClosed = closed then s else reportHinge s (settleDoor closed s))

/-- A move ends (R156), and a DRY move's end reaches the Drying Controller (R164). -/
def finishMove (st : OpenerState) (o : MoveOutcome) (s : State) : State :=
  let s1 := endMove st o s
  if s.dru.issuer = .dry then takeDry (dryMoveEnded s.dru.commanded o s1) else s1

/-- The latch has settled released while a release pulse waits for it (R153, R154). -/
def latchFreed (s : State) : State :=
  if s.dru.phase = some .releasing then
    let (s1, ended) := driveOut s
    if ended ∧ s.dru.issuer = .dry then takeDry (dryMoveEnded s.dru.commanded .done s1) else s1
  else s

/-- A settled change of the latch (R149, R153, R115, R188; log 33). -/
def settleLatch (engaged : Bool) (s : State) : State :=
  let s1 := noticeDoor { s with dru := { s.dru with latched := engaged } }
  if engaged then loseDoor s1 else latchFreed (loseDoor (doorOpens s1))

/-- LATCH_SWITCH_CHANGE (R149). -/
def execLatchSwitchChange (engaged : Bool) (s : State) : Host.Outcome State Fault Refusal :=
  .next (if s.dru.latched = engaged then s else settleLatch engaged s)

/-- RELEASE_PULSE_END (R153): the 300 ms have run. -/
def execReleasePulseEnd (s : State) : Host.Outcome State Fault Refusal :=
  .next (if 300 ≤ s.dru.pulseMs then { s with dru := { s.dru with solenoid := false } } else s)

/-- The move's present phase has run for a figure (R153 to R155). -/
def State.moveRan (s : State) (ph : MovePhase) (ms : Nat) : Bool := decide (s.dru.phase = some ph) && decide (ms ≤ s.dru.moveMs)

/-- RELEASE_TIMEOUT (R153): 500 ms have passed without the latch settling released. -/
def execReleaseTimeout (s : State) : Host.Outcome State Fault Refusal :=
  .next (if s.moveRan .releasing 500 then finishMove .fault .fault s else s)

/-- An end switch takes a new level (R157). -/
def writeEndSwitch (sw : EndSwitch) (active : Bool) (s : State) : State :=
  match sw with
  | .retracted => { s with dru := { s.dru with endRetracted := active } }
  | .extended => { s with dru := { s.dru with endExtended := active } }

/-- An end switch's field (8.2). -/
def State.endSwitch (s : State) : EndSwitch → Bool
  | .retracted => s.dru.endRetracted
  | .extended => s.dru.endExtended

/-- The move that an end switch ends (R154, R155). -/
def EndSwitch.ends : EndSwitch → OpenerState × OpenerState
  | .extended => (.extending, .extended)
  | .retracted => (.retracting, .retracted)

/-- An end switch settles active (R154, R155): a drive toward it ends DONE. -/
def endSwitchActive (sw : EndSwitch) (s : State) : State :=
  if s.dru.phase = some .driving ∧ s.dru.opener = sw.ends.1 then finishMove sw.ends.2 .done s else s

/-- END_SWITCH_CHANGE (R157). -/
def execEndSwitchChange (switch : EndSwitch) (active : Bool) (s : State) : Host.Outcome State Fault Refusal :=
  .next
    (if s.endSwitch switch = active then s
     else
       let s1 := writeEndSwitch switch active s
       if active then endSwitchActive switch s1 else s1)

/-- OPENER_DRIVE_TIMEOUT (R154, R155): 6 s of driving have passed. -/
def execOpenerDriveTimeout (s : State) : Host.Outcome State Fault Refusal :=
  .next (if s.moveRan .driving 6000 then finishMove .fault .fault s else s)

/-! ## Drying (R162 to R169) -/

/-- CABINET_SAMPLE (R162, R163, R166). -/
def execCabinetSample (temp humidity : Int) (s : State) : Host.Outcome State Fault Refusal :=
  .next (takeDry (sampleCabinet temp humidity s))

/-- The run is in COOLING and not suspended (R163). -/
def DryRun.cooling (r : DryRun) : Bool := r.live && decide (r.state = .cooling)

/-- OPEN_DELAY_EXPIRY (R163): the seconds in state reach the open delay. Nothing changes at that moment: what the delay held back is
the test of each later temperature sample, which reads the seconds in state itself (`DryRun.coolEnough`). -/
def execOpenDelayExpiry (s : State) : Host.Outcome State Fault Refusal := .next s

/-- COOLING_LIMIT_EXPIRY (R163): the seconds in state reach 1,200 s. -/
def execCoolingLimitExpiry (s : State) : Host.Outcome State Fault Refusal :=
  .next
    (match s.dyc.run with
     | some r => if r.cooling && decide (1200000 ≤ r.stateMs) then takeDry (enterOpening s) else s
     | none => s)

/-- DRY_TIME_REACHED (R166, R169). -/
def execDryTimeReached (s : State) : Host.Outcome State Fault Refusal :=
  .next
    (match s.dyc.run with
     | some r => if r.counting && r.dried then takeDry (dryingEnds s) else s
     | none => s)

/-- MIN_DRY_TIME_REACHED (R166): at 600 dry seconds with 60 humidity-low seconds, AJAR and YIELDING end their drying. -/
def execMinDryTimeReached (s : State) : Host.Outcome State Fault Refusal :=
  .next
    (match s.dyc.run with
     | some r => if r.airDry then takeDry (dryingEnds s) else s
     | none => s)

/-- DRY_COMMAND_RETRY (R164). -/
def execDryCommandRetry (s : State) : Host.Outcome State Fault Refusal := .next (takeDry (reissue s))

/-! ## Service tests (R188) -/

/-- TEST_DURATION_EXPIRY (R188). -/
def execTestDurationExpiry (actuator : Actuator) (s : State) : Host.Outcome State Fault Refusal :=
  .next (completeTest actuator s)

/-- WATER_ABSENT_TIMEOUT (R188). -/
def execWaterAbsentTimeout (s : State) : Host.Outcome State Fault Refusal := .next (loseWater s)

end Sys2Proof.Machine
end

