-- ==== Sys2Proof/Machine/Requests.lean ====
section
/-! DEFINITION. The meanings of the host's requests, one for each row: a valid frame of the request's kind that its owner handles
at once (R192, log 1). The owners' rules are in the blocks' own files. -/

namespace Sys2Proof.Machine

/-! ## Settings (R20, R36, R59, R73, R95, R96, R179, R173) -/

/-- SET_WATER (R20). -/
def execSetWater (k hRaw hT vRef limitCode : Nat) (s : State) : Host.Outcome State Fault Refusal :=
  .next (serveRow 0x10 (setWaterRequest k hRaw hT vRef limitCode) s)

/-- SET_COLUMN (R36 to R41, R58). -/
def execSetColumn (column nominal remaining hold : Nat) (s : State) : Host.Outcome State Fault Refusal :=
  .next (serveRow 0x11 (setColumnRequest column nominal remaining hold) s)

/-- SET_REGEN (R59, R47). -/
def execSetRegen (brine slow fast window automatic : Nat) (s : State) : Host.Outcome State Fault Refusal :=
  .next (serveRow 0x12 (setRegenRequest brine slow fast window automatic) s)

/-- SET_SUPPLY (R73). -/
def execSetSupply (entry capacity estimate lowMark stroke : Nat) (s : State) : Host.Outcome State Fault Refusal :=
  .next (serveRow 0x13 (setSupplyRequest entry capacity estimate lowMark stroke) s)

/-- LOAD_CURVE (R95). -/
def execLoadCurve (points : List (Nat × Nat)) (s : State) : Host.Outcome State Fault Refusal :=
  .next (serveRow 0x14 (loadCurveRequest points) s)

/-- LOAD_SOIL (R96). -/
def execLoadSoil (thresholds factors : List Nat) (s : State) : Host.Outcome State Fault Refusal :=
  .next (serveRow 0x15 (loadSoilRequest thresholds factors) s)

/-- SET_POLICY (R179). -/
def execSetPolicy (traps : CondSet) (s : State) : Host.Outcome State Fault Refusal :=
  .next (serveRow 0x16 (setPolicyRequest traps) s)

/-- SET_DRY (R173). -/
def execSetDry (openDelay openTemp dryTime humidity fan : Nat) (s : State) : Host.Outcome State Fault Refusal :=
  .next (serveRow 0x17 (setDryRequest openDelay openTemp dryTime humidity fan) s)

/-! ## The program (R101 to R125, R180, R46, R151, R185 to R187, R199) -/

/-- QUEUE_PHASE (R101, R102). -/
def execQueuePhase (raw : RawPhase) (s : State) : Host.Outcome State Fault Refusal :=
  .next (serveRow 0x20 (queuePhaseRequest raw) s)

/-- CANCEL_PHASE (R103). -/
def execCancelPhase (id : Nat) (s : State) : Host.Outcome State Fault Refusal :=
  .next (serveRow 0x21 (cancelPhaseRequest id) s)

/-- START (R105). -/
def execStart (s : State) : Host.Outcome State Fault Refusal :=
  .next (serveRow 0x22 startRequest s)

/-- PAUSE (R119). -/
def execPause (s : State) : Host.Outcome State Fault Refusal :=
  .next (serveRow 0x23 pauseRequest s)

/-- RESUME (R121, R122). -/
def execResume (s : State) : Host.Outcome State Fault Refusal :=
  .next (serveRow 0x24 resumeRequest s)

/-- ABORT (R124, R125). -/
def execAbort (s : State) : Host.Outcome State Fault Refusal :=
  .next (serveRow 0x25 abortRequest s)

/-- EDIT_CONTEXT (R123). -/
def execEditContext (operation value : Nat) (s : State) : Host.Outcome State Fault Refusal :=
  .next (serveRow 0x26 (editContextRequest operation value) s)

/-- CLEAR_CONDITIONS (R180). -/
def execClearConditions (causes flags : CondSet) (s : State) : Host.Outcome State Fault Refusal :=
  .next (serveRow 0x27 (clearConditionsRequest causes flags) s)

/-- REGEN_NOW (R46). -/
def execRegenNow (column : Nat) (s : State) : Host.Outcome State Fault Refusal :=
  .next (serveRow 0x28 (regenNowRequest column) s)

/-- OPENER (R151). -/
def execOpener (position : Nat) (s : State) : Host.Outcome State Fault Refusal :=
  .next (serveRow 0x30 (openerRequest position) s)

/-- ENTER_SERVICE (R186). -/
def execEnterService (s : State) : Host.Outcome State Fault Refusal :=
  .next (serveRow 0x38 enterServiceRequest s)

/-- LEAVE_SERVICE (R186). -/
def execLeaveService (s : State) : Host.Outcome State Fault Refusal :=
  .next (serveRow 0x39 leaveServiceRequest s)

/-- TEST (R187). -/
def execTest (actuator amount : Nat) (s : State) : Host.Outcome State Fault Refusal :=
  .next (serveRow 0x3A (testRequest actuator amount) s)

/-- LEAVE_SAFE (R185). -/
def execLeaveSafe (s : State) : Host.Outcome State Fault Refusal :=
  .next (serveRow 0x3B leaveSafeRequest s)

/-- RESET (R199): the reset itself takes effect at REPLY_SENT. -/
def execReset (s : State) : Host.Outcome State Fault Refusal :=
  .next (serveRow 0x3F resetRequest s)

/-! ## Queries (R15, R42, R60, R74, R98, R104, R126, R159, R181, R197, R198, R200) -/

/-- GET_STATUS (R200). -/
def execGetStatus (s : State) : Host.Outcome State Fault Refusal :=
  .next (serveRow 0x40 getStatusRequest s)

/-- GET_PHASES (R104). -/
def execGetPhases (s : State) : Host.Outcome State Fault Refusal :=
  .next (serveRow 0x41 getPhasesRequest s)

/-- GET_CONTEXT (R126). -/
def execGetContext (s : State) : Host.Outcome State Fault Refusal :=
  .next (serveRow 0x42 getContextRequest s)

/-- GET_COLUMNS (R42, R60). -/
def execGetColumns (s : State) : Host.Outcome State Fault Refusal :=
  .next (serveRow 0x43 getColumnsRequest s)

/-- GET_SUPPLY (R74). -/
def execGetSupply (s : State) : Host.Outcome State Fault Refusal :=
  .next (serveRow 0x44 getSupplyRequest s)

/-- GET_FILLS (R15, R202). -/
def execGetFills (index : Nat) (s : State) : Host.Outcome State Fault Refusal :=
  .next (serveRow 0x45 (getFillsRequest index) s)

/-- GET_DOSES (R98). -/
def execGetDoses (s : State) : Host.Outcome State Fault Refusal :=
  .next (serveRow 0x46 getDosesRequest s)

/-- GET_CONDITIONS (R181). -/
def execGetConditions (s : State) : Host.Outcome State Fault Refusal :=
  .next (serveRow 0x47 getConditionsRequest s)

/-- GET_DOOR (R159). -/
def execGetDoor (s : State) : Host.Outcome State Fault Refusal :=
  .next (serveRow 0x48 getDoorRequest s)

/-- GET_ATTENTION (R197). -/
def execGetAttention (s : State) : Host.Outcome State Fault Refusal :=
  .next (serveRow 0x49 getAttentionRequest s)

/-- ACK_ATTENTION (R198). -/
def execAckAttention (source : Nat) (s : State) : Host.Outcome State Fault Refusal :=
  .next (serveRow 0x4A (ackAttentionRequest source) s)

end Sys2Proof.Machine
end

