-- ==== Sys2Proof/Machine/Time.lean ====
section
/-! DEFINITION. One millisecond passing: what a step does on an empty queue (log 2). Every count that runs is advanced; the
running-out of a count is a command of its own, taken once the count has come to its figure (log 3), so nothing here ends an
operation. -/

namespace Sys2Proof.Machine

/-- A count that runs is advanced by one. -/
def countIf (runs : Bool) (n : Nat) : Nat := if runs then n + 1 else n

/-- The receiver is inside a frame (R191). -/
def Receiver.isInside : Receiver → Bool
  | .outside => false
  | .inside _ => true

/-- The Link Port's counts (R191, R194, R196). -/
def tickLink (l : LinkPort) : LinkPort :=
  { l with
    gapMs := countIf l.rx.isInside l.gapMs
    supervision := l.supervision.map (· + 1)
    lineLowMs := if l.latch.isNone then 1 else l.lineLowMs }

/-- A drain's two counts (R16): the empty count runs while the water-present switch reads open. -/
def tickDrain (waterPresent : Bool) (d : Drain) : Drain :=
  { limitMs := d.limitMs + 1, emptyMs := if waterPresent then 0 else d.emptyMs + 1 }

/-- The Water Path Unit's counts (R12, R16). -/
def State.tickWater (s : State) : WaterPath :=
  { s.wpu with
    fillMs := countIf s.fillCounts s.wpu.fillMs
    drain := s.wpu.drain.map (tickDrain s.wpu.waterPresent) }

/-- The stage seconds of a run (3.2). They stop at the outcome, and a run that ends DONE keeps FAST_RINSE's figure (log 34). -/
def State.tickSoftener (s : State) : Softener :=
  { s.sfu with run := s.sfu.run.map fun r => { r with stageMs := countIf r.outcome.isNone r.stageMs } }

/-- The time since the last drive start (R98). -/
def tickDosing (d : Dosing) : Dosing := { d with sinceDriveMs := satSucc 65535 d.sinceDriveMs }

/-- The hold countdown (R112): a whole second counted takes one second away. -/
def ActivePhase.countDown (a : ActivePhase) : ActivePhase :=
  if a.holdSec = 0 then a
  else if 999 ≤ a.holdFracMs then { a with holdSec := a.holdSec - 1, holdFracMs := 0 }
  else { a with holdFracMs := a.holdFracMs + 1 }

/-- The Wash Controller's count (R112). -/
def State.tickWash (s : State) : WashController :=
  { s.wsc with active := if s.holdCounts then s.wsc.active.map ActivePhase.countDown else s.wsc.active }

/-- The dry count (R132). -/
def DryCount.tick : DryCount → DryCount
  | .counting n => .counting (n + 1)
  | d => d

/-- The watch's counts (R140). -/
def ArmWatch.tick : ArmWatch → ArmWatch
  | .grace n => .grace (n + 1)
  | .watching n => .watching (n + 1)
  | .none => .none

/-- The time since an arm's last pulse (R139). -/
def ArmCaptures.tick (a : ArmCaptures) : ArmCaptures := { a with sinceMs := a.sinceMs.map (· + 1) }

/-- The period seconds count while the current zone is fed (R136). -/
def State.periodCounts (s : State) : Bool := s.fedZone.isSome && decide (s.fedZone = s.hcu.zone)

/-- The Heat and Circulation Unit's counts (R132, R134 to R140). -/
def State.tickHeat (s : State) : HeatUnit :=
  { s.hcu with
    dry := s.hcu.dry.tick
    heatMs := countIf s.heatCounts s.hcu.heatMs
    circMs := countIf s.circRuns s.hcu.circMs
    periodMs := countIf s.periodCounts s.hcu.periodMs
    move := s.hcu.move.map fun m => { m with ms := m.ms + 1 }
    watch := s.hcu.watch.tick
    lowerArm := s.hcu.lowerArm.tick
    upperArm := s.hcu.upperArm.tick }

/-- The Door Unit's counts (R153, R154). -/
def State.tickDoor (s : State) : DoorUnit :=
  { s.dru with
    moveMs := countIf s.dru.phase.isSome s.dru.moveMs
    pulseMs := countIf s.dru.solenoid s.dru.pulseMs }

/-- The Drying Controller's counts (R163, R166). The seconds in state of an ended record stay at 0 (log 38). -/
def tickDry (d : Drying) : Drying :=
  { d with
    run := d.run.map fun r =>
      { r with stateMs := countIf r.live r.stateMs, dryMs := countIf r.counting r.dryMs } }

/-- A timed test's seconds run (R187). -/
def tickTest (a : Actuator) (s : State) : State :=
  if s.testCounts a then writeTest a { s.testEntry a with progressMs := (s.testEntry a).progressMs + 1 } s else s

/-- The counts of the service tests (R187, R188). -/
def tickTests (s : State) : State := tickTest .fan (tickTest .heater (tickTest .circPump (tickTest .drainPump (tickTest .inlet s))))

/-- One millisecond passes (log 2). -/
def tick (s : State) : State :=
  { s with
    uptimeMs := s.uptimeMs + 1
    lkp := tickLink s.lkp
    wpu := s.tickWater
    sfu := s.tickSoftener
    dsu := tickDosing s.dsu
    wsc := s.tickWash
    hcu := s.tickHeat
    dru := s.tickDoor
    dyc := tickDry s.dyc
    cdu := { (tickTests s).cdu with dryWaterMs := countIf (!s.wpu.waterPresent) s.cdu.dryWaterMs } }

end Sys2Proof.Machine
end

