-- ==== Sys2Proof/Machine/Dispatch.lean ====
section
/-! DEFINITION. The meaning of each command, one arm for each row of the table. -/

namespace Sys2Proof.Machine

/-- The effect of a command on everything but the queue. -/
def exec (i : Instr) (s : State) : Host.Outcome State Fault Refusal :=
  match i with
  | .setWater k hRaw hT vRef limitCode => Sys2Proof.Machine.execSetWater k hRaw hT vRef limitCode s
  | .setColumn column nominal remaining hold => Sys2Proof.Machine.execSetColumn column nominal remaining hold s
  | .setRegen brine slow fast window automatic => Sys2Proof.Machine.execSetRegen brine slow fast window automatic s
  | .setSupply entry capacity estimate lowMark stroke => Sys2Proof.Machine.execSetSupply entry capacity estimate lowMark stroke s
  | .loadCurve points => Sys2Proof.Machine.execLoadCurve points s
  | .loadSoil thresholds factors => Sys2Proof.Machine.execLoadSoil thresholds factors s
  | .setPolicy traps => Sys2Proof.Machine.execSetPolicy traps s
  | .setDry openDelay openTemp dryTime humidity fan => Sys2Proof.Machine.execSetDry openDelay openTemp dryTime humidity fan s
  | .queuePhase raw => Sys2Proof.Machine.execQueuePhase raw s
  | .cancelPhase id => Sys2Proof.Machine.execCancelPhase id s
  | .start => Sys2Proof.Machine.execStart s
  | .pause => Sys2Proof.Machine.execPause s
  | .resume => Sys2Proof.Machine.execResume s
  | .abort => Sys2Proof.Machine.execAbort s
  | .editContext operation value => Sys2Proof.Machine.execEditContext operation value s
  | .clearConditions causes flags => Sys2Proof.Machine.execClearConditions causes flags s
  | .regenNow column => Sys2Proof.Machine.execRegenNow column s
  | .opener position => Sys2Proof.Machine.execOpener position s
  | .enterService => Sys2Proof.Machine.execEnterService s
  | .leaveService => Sys2Proof.Machine.execLeaveService s
  | .test actuator amount => Sys2Proof.Machine.execTest actuator amount s
  | .leaveSafe => Sys2Proof.Machine.execLeaveSafe s
  | .reset => Sys2Proof.Machine.execReset s
  | .getStatus => Sys2Proof.Machine.execGetStatus s
  | .getPhases => Sys2Proof.Machine.execGetPhases s
  | .getContext => Sys2Proof.Machine.execGetContext s
  | .getColumns => Sys2Proof.Machine.execGetColumns s
  | .getSupply => Sys2Proof.Machine.execGetSupply s
  | .getFills index => Sys2Proof.Machine.execGetFills index s
  | .getDoses => Sys2Proof.Machine.execGetDoses s
  | .getConditions => Sys2Proof.Machine.execGetConditions s
  | .getDoor => Sys2Proof.Machine.execGetDoor s
  | .getAttention => Sys2Proof.Machine.execGetAttention s
  | .ackAttention source => Sys2Proof.Machine.execAckAttention source s
  | .uartByteReceived byte => Sys2Proof.Machine.execUartByteReceived byte s
  | .interByteTimeout => Sys2Proof.Machine.execInterByteTimeout s
  | .replySent inputs => Sys2Proof.Machine.execReplySent inputs s
  | .supervisionTimerExpiry => Sys2Proof.Machine.execSupervisionTimerExpiry s
  | .attentionScan => Sys2Proof.Machine.execAttentionScan s
  | .powerOnReset inputs => Sys2Proof.Machine.execPowerOnReset inputs s
  | .flowPulse comparatorA comparatorB => Sys2Proof.Machine.execFlowPulse comparatorA comparatorB s
  | .fillTimeLimitExpiry => Sys2Proof.Machine.execFillTimeLimitExpiry s
  | .drainEmptyCountExpiry => Sys2Proof.Machine.execDrainEmptyCountExpiry s
  | .drainLimitExpiry => Sys2Proof.Machine.execDrainLimitExpiry s
  | .waterPresentSwitchChange closed => Sys2Proof.Machine.execWaterPresentSwitchChange closed s
  | .overfillSwitchChange closed => Sys2Proof.Machine.execOverfillSwitchChange closed s
  | .leakFloatChange wet => Sys2Proof.Machine.execLeakFloatChange wet s
  | .slowRinseEnd => Sys2Proof.Machine.execSlowRinseEnd s
  | .regenStageLimitExpiry => Sys2Proof.Machine.execRegenStageLimitExpiry s
  | .capOpen entry => Sys2Proof.Machine.execCapOpen entry s
  | .capClose entry => Sys2Proof.Machine.execCapClose entry s
  | .lowSwitchLow entry => Sys2Proof.Machine.execLowSwitchLow entry s
  | .lowSwitchNotLow entry => Sys2Proof.Machine.execLowSwitchNotLow entry s
  | .strokeStart => Sys2Proof.Machine.execStrokeStart s
  | .strokeDriveOff => Sys2Proof.Machine.execStrokeDriveOff s
  | .strokeSensorPulse agent => Sys2Proof.Machine.execStrokeSensorPulse agent s
  | .senseWindowClose => Sys2Proof.Machine.execSenseWindowClose s
  | .holdCountdownEnd => Sys2Proof.Machine.execHoldCountdownEnd s
  | .temperatureSample reading => Sys2Proof.Machine.execTemperatureSample reading s
  | .zeroCrossing => Sys2Proof.Machine.execZeroCrossing s
  | .dryCountExpiry => Sys2Proof.Machine.execDryCountExpiry s
  | .heatLimitExpiry => Sys2Proof.Machine.execHeatLimitExpiry s
  | .camArrival reading => Sys2Proof.Machine.execCamArrival reading s
  | .diverterMoveTimeout => Sys2Proof.Machine.execDiverterMoveTimeout s
  | .zonePeriodEnd => Sys2Proof.Machine.execZonePeriodEnd s
  | .armPulse arm => Sys2Proof.Machine.execArmPulse arm s
  | .armCheckGraceEnd => Sys2Proof.Machine.execArmCheckGraceEnd s
  | .armGapExpiry => Sys2Proof.Machine.execArmGapExpiry s
  | .turbidityReading count => Sys2Proof.Machine.execTurbidityReading count s
  | .hingeEncoderEdge channel rising => Sys2Proof.Machine.execHingeEncoderEdge channel rising s
  | .doorClosedSwitchChange closed => Sys2Proof.Machine.execDoorClosedSwitchChange closed s
  | .latchSwitchChange engaged => Sys2Proof.Machine.execLatchSwitchChange engaged s
  | .releasePulseEnd => Sys2Proof.Machine.execReleasePulseEnd s
  | .releaseTimeout => Sys2Proof.Machine.execReleaseTimeout s
  | .endSwitchChange switch active => Sys2Proof.Machine.execEndSwitchChange switch active s
  | .openerDriveTimeout => Sys2Proof.Machine.execOpenerDriveTimeout s
  | .cabinetSample temp humidity => Sys2Proof.Machine.execCabinetSample temp humidity s
  | .openDelayExpiry => Sys2Proof.Machine.execOpenDelayExpiry s
  | .coolingLimitExpiry => Sys2Proof.Machine.execCoolingLimitExpiry s
  | .dryTimeReached => Sys2Proof.Machine.execDryTimeReached s
  | .minDryTimeReached => Sys2Proof.Machine.execMinDryTimeReached s
  | .dryCommandRetry => Sys2Proof.Machine.execDryCommandRetry s
  | .testDurationExpiry actuator => Sys2Proof.Machine.execTestDurationExpiry actuator s
  | .waterAbsentTimeout => Sys2Proof.Machine.execWaterAbsentTimeout s

end Sys2Proof.Machine
end

