-- ==== Sys2Proof/Safety.lean ====
section
/-! DEFINITION. What counts as a good state and a safe machine, in the terms that claims use: the rules of the manual that hold of
the whole machine at every moment, and the ways in which a claim says "nothing else changed". -/

namespace Sys2Proof.Machine

/-! ## Rules that hold at every moment -/

/-- The water account balances (R6): the total equals the sum of the four attributed totals. -/
abbrev State.accountBalances (s : State) : Prop :=
  s.wpu.total = s.wpu.fillTotal + s.wpu.regenTotal + s.wpu.serviceCount + s.wpu.unattributed

/-- The inlet valve is open only while a grantee holds the grant (R4), and the inhibit leaves neither a grant nor a claim (R5). -/
abbrev State.inletGuarded (s : State) : Prop :=
  (s.wpu.valveOpen = true → s.wpu.grant ≠ none) ∧
  (s.wpu.inhibit = true →
    s.wpu.grant = none ∧ s.wpu.waitFill = none ∧ s.wpu.waitRegen = none ∧ s.wpu.waitTest = none)

/-- The tables keep to their sizes (R15, R102, R184): eight ledger records, twelve queued phases, each SAFE cause once. -/
abbrev State.tablesBounded (s : State) : Prop :=
  s.wpu.ledger.length ≤ 8 ∧ s.wsc.queue.length ≤ 12 ∧ s.cdu.safeSet.Nodup

/-- The receive buffering of R193: the frame in service is the one whose reply is being sent; a reply without a frame in service is
an OVERRUN refusal; a frame waits, and a dropped one's kind is kept, only while a reply is being sent; and during an OVERRUN refusal
one is dropped only behind a waiting one. The latched source is pending and is the last latched number (R196, R198). -/
abbrev State.linkOrdered (s : State) : Prop :=
  (s.lkp.inService ≠ none → s.lkp.sending.map Reply.kind = s.lkp.inService) ∧
  (s.lkp.inService = none → s.lkp.sending.all (fun r => r.answer = .refused .overrun) = true) ∧
  (s.lkp.waiting ≠ none ∨ s.lkp.overrun ≠ none → s.lkp.sending ≠ none) ∧
  (s.lkp.inService = none → s.lkp.overrun ≠ none → s.lkp.waiting ≠ none) ∧
  (∀ src, s.lkp.latch = some src → s.pendingSource src = true ∧ s.lkp.lastLatched = src)

/-- A column record keeps its ranges (R23), and is neither FRESH nor IN_SERVICE without capacity (R34, R40). -/
abbrev ColumnRecord.inRange (r : ColumnRecord) : Prop :=
  2000000 ≤ r.nominal ∧ r.nominal ≤ 40000000 ∧ r.remaining ≤ r.nominal ∧
  (r.state = .fresh ∨ r.state = .inService → 0 < r.remaining)

/-- Both columns keep their ranges, and at most one is IN_SERVICE (R23, R25). -/
abbrev State.columnsKept (s : State) : Prop :=
  s.sfu.colA.inRange ∧ s.sfu.colB.inRange ∧ ¬(s.sfu.colA.state = .inService ∧ s.sfu.colB.state = .inService)

/-- A supply entry keeps its ranges (R63): the estimate is at most the capacity, and 0 while untracked. -/
abbrev SupplyEntry.inRange (r : SupplyEntry) : Prop := r.estimate ≤ r.capacity ∧ (r.tracked = false → r.estimate = 0) ∧
  r.lowMark ≤ r.capacity ∧ r.refills ≤ 255

/-- All four entries keep their ranges (R63). -/
abbrev State.suppliesKept (s : State) : Prop :=
  s.spt.detergent.inRange ∧ s.spt.rinseAid.inRange ∧ s.spt.additive.inRange ∧ s.spt.salt.inRange

/-- The hinge keeps its ranges (R145, R146), and a closed door stands at 0 with the zero given (R147). -/
abbrev State.hingeKept (s : State) : Prop :=
  s.dru.angle ≤ 1023 ∧ s.dru.changes ≤ 255 ∧
  (s.dru.doorClosed = true → s.dru.angle = 0 ∧ s.dru.referenced = true)

/-- The rod motor and the release solenoid are on only while a move runs (R150), and a move phase is held only then (8.2). -/
abbrev State.openerGuarded (s : State) : Prop :=
  (s.dru.motor ≠ none → s.openerMoves = true) ∧ (s.dru.solenoid = true → s.openerMoves = true) ∧
  (s.dru.phase ≠ none → s.openerMoves = true)

/-- The mode and SAFE agree (R182 to R185): the inhibit is set and the SAFE cause set holds a member in SAFE and only there, and a
RUNNING wash means mode RUN and a phase at work. -/
abbrev State.modeAgrees (s : State) : Prop :=
  (s.wpu.inhibit = true ↔ s.cdu.mode = .safe) ∧ (s.cdu.safeSet ≠ [] ↔ s.cdu.mode = .safe) ∧
  (s.wsc.wash = .running → s.cdu.mode = .run ∧ s.wsc.active ≠ none)

/-- The circulation pump is off whenever the opener is in any state but RETRACTED, or the mode is STANDBY or SAFE (R135). -/
abbrev State.pumpGuarded (s : State) : Prop :=
  s.hcu.pumpRuns = true → s.dru.opener = .retracted ∧ s.cdu.mode.runs = true

/-! ## Words of the statements -/

/-- The five counters of the water account (1.2). -/
def WaterPath.meters (w : WaterPath) : Pulses × Pulses × Pulses × Pulses × Pulses :=
  (w.total, w.fillTotal, w.regenTotal, w.serviceCount, w.unattributed)

/-- `r` is `n` clamped to the range from `lo` to `hi` ("Arithmetic", 00). -/
abbrev clampedTo (lo hi n r : Nat) : Prop := (n < lo → r = lo) ∧ (hi < n → r = hi) ∧ (lo ≤ n → n ≤ hi → r = n)

/-- A condition is a member of a condition set (11.1). -/
abbrev hasCondition (w : CondSet) (c : Condition) : Prop := w &&& c.mask ≠ 0

/-- Between two states a condition was recorded, and no other (R175): it joins the causes and the flags, its count rises and stays
at 255, and CONDITION attention carries its code. -/
abbrev State.recorded (s t : State) (c : Condition) : Prop :=
  (∀ d, hasCondition t.cdu.causes d ↔ hasCondition s.cdu.causes d ∨ d = c) ∧
  (∀ d, hasCondition t.cdu.flags d ↔ hasCondition s.cdu.flags d ∨ d = c) ∧
  (∀ d : Condition, t.cdu.counts[d.idx] = if d = c then min 255 (s.cdu.counts[d.idx] + 1) else s.cdu.counts[d.idx]) ∧
  t.lkp.sources[Source.condition.idx] = ⟨true, some (.condition c)⟩

/-- A raw phase record is one that R101 and R201 allow. -/
abbrev RawPhase.allowed (r : RawPhase) : Prop :=
  (1 ≤ r.id ∧ r.id ≤ 255) ∧ r.kind ≤ 5 ∧ (1 ≤ r.mask ∧ r.mask ≤ 7) ∧ (5 ≤ r.period ∧ r.period ≤ 120) ∧
  (1 ≤ r.speed ∧ r.speed ≤ 3) ∧ r.flags < 16 ∧ r.presence < 32 ∧
  (r.kind ≤ 3 →
    (1500 ≤ r.fill ∧ r.fill ≤ 7000) ∧ (r.temp = 0 ∨ 300 ≤ r.temp ∧ r.temp ≤ 750) ∧ r.hold ≤ 3600 ∧
    (r.presence.testBit 0 → 300 ≤ r.heatLimit ∧ r.heatLimit ≤ 3600) ∧ (r.presence.testBit 1 → r.detergent ≤ 600) ∧
    (r.presence.testBit 2 → r.additive ≤ 200) ∧ (r.presence.testBit 3 → r.rinse ≤ 100) ∧
    r.flags.testBit 3 = false ∧ r.presence.testBit 4 = false) ∧
  (4 ≤ r.kind →
    r.fill = 0 ∧ r.temp = 0 ∧ r.hold = 0 ∧ r.presence.testBit 0 = false ∧ r.presence.testBit 1 = false ∧
    r.presence.testBit 2 = false ∧ r.presence.testBit 3 = false ∧ r.flags.testBit 0 = false) ∧
  (r.kind = 4 → r.presence.testBit 4 → 300 ≤ r.dryOverride ∧ r.dryOverride ≤ 5400) ∧
  (r.kind = 5 → r.flags.testBit 3 = false ∧ r.presence.testBit 4 = false)

/-- A phase id is used by a queued record or by the active phase (R102). -/
abbrev State.usesId (s : State) (id : Nat) : Prop :=
  (∃ q ∈ s.wsc.queue, q.id = id) ∨ (∃ a, s.wsc.active = some a ∧ a.record.id = id)

/-! ## The end of a step -/

/-- The Link Port after a request row: the request is in service with its answer being sent, and the supervision timer restarted
where it runs (R192 to R194). Everything else of the Link Port is as `l` has it. -/
abbrev LinkPort.answered (l : LinkPort) (kind : Byte) (a : Answer) : LinkPort :=
  { l with inService := some kind, sending := some ⟨kind, a⟩ }

/-- The supervision timer restarted where it runs (R194). -/
abbrev LinkPort.heard (l : LinkPort) : LinkPort := { l with supervision := l.supervision.map fun _ => 0 }

/-- A request changed nothing but the Link Port's service of it (R192: "no effect beyond its reply"). -/
abbrev State.onlyAnswered (s : State) (kind : Byte) (a : Answer) : State :=
  { s with lkp := s.lkp.heard.answered kind a }

/-- Only the named source's entry may differ between two source tables (R195). -/
abbrev State.sourcesKeptBut (s t : State) (src : Source) : Prop :=
  ∀ x : Source, x ≠ src → t.lkp.sources[x.idx] = s.lkp.sources[x.idx]

/-- A source is pending with a summary (R195). -/
abbrev State.told (s : State) (src : Source) (sm : Summary) : Prop := s.lkp.sources[src.idx] = ⟨true, some sm⟩

/-- The wet side is stopped (R183): the inlet is shut and inhibited, no heat or pump demand stands, the pump and the diverter motor
are off, no dosing pump is driven, and every live dose is SUSPENDED. -/
abbrev State.wetSideStopped (s : State) : Prop :=
  s.wpu.inhibit = true ∧ s.wpu.grant = none ∧ s.wpu.valveOpen = false ∧ s.wpu.waitFill = none ∧ s.wpu.waitRegen = none ∧
  s.wpu.waitTest = none ∧ s.hcu.heat = none ∧ s.hcu.level = 0 ∧ s.hcu.demand = none ∧ s.hcu.pumpRuns = false ∧
  s.hcu.move = none ∧ s.dsu.drive = none ∧ ∀ r ∈ s.dsu.live, r.state = .suspended

/-! ## Phases and doses -/

/-- A phase has begun at its record's first stage with its figures set up (R106): the record has left the queue, the cause set is
empty, and the Heat and Circulation Unit counts from 0 with the record's mask, period and heat limit. -/
abbrev State.phaseBegun (t : State) (p : PhaseRecord) (rest : List PhaseRecord) (st : Stage) : Prop :=
  t.wsc.queue = rest ∧ t.wsc.active = some ⟨p, st, p.hold, 0, p.temp, false, false, false, false, false⟩ ∧
  t.wsc.wash = .running ∧ t.cdu.causes = 0 ∧ t.hcu.mask = p.mask ∧ t.hcu.period = p.period ∧
  t.hcu.heatLimit = p.heatLimit.getD 1800 ∧ t.hcu.heatMs = 0 ∧ t.hcu.circMs = 0 ∧ t.hcu.dropped = 0 ∧ t.hcu.checking = true ∧
  t.hcu.fixed = false ∧ t.hcu.zone = none ∧ t.hcu.pendingMove = none

/-- The program has ended with its last phase (R107): PROGRAM attention with COMPLETED and the water total, mode STANDBY with MODE
attention, and no phase. -/
abbrev State.programEnded (t : State) (total : Nat) : Prop :=
  t.told .program (.program .completed total) ∧ t.told .mode (.mode .standby) ∧ t.cdu.mode = .standby ∧ t.wsc.wash = .idle ∧
  t.wsc.active = none

/-- The drying run record of a DRY phase's start with the door shut (R161): the captured settings, the dry time with its quarter for
a rinse shortfall, and COOLING for an open-door phase, CLOSED_DRY with the fan by its setting for another. -/
abbrev PhaseRecord.dryingIn (p : PhaseRecord) (shortfall : Bool) (w : DrySettings) (r : DryRun) : Prop :=
  r.dryTime = (if shortfall = true then p.dryOverride.getD w.dryTime + p.dryOverride.getD w.dryTime / 4
    else p.dryOverride.getD w.dryTime) ∧
  (p.openDoor = true →
    r = ⟨.open, .cooling, 0, r.dryTime, shortfall, 0, 0, none, false, false, none, none, false, false, w, none⟩) ∧
  (p.openDoor = false →
    r = ⟨.closed, .closedDry, 0, r.dryTime, shortfall, 0, 0, none, false, false, none, none, false, w.fan, w, none⟩)

/-- The dose curve gives a factor at a hardness (R80): the first figure up to the first point, the last from the last point on, and
between two points their line, whose division truncates toward zero. -/
abbrev Curve.gives (c : Curve) (h f : Nat) : Prop :=
  (∀ p rest, c.points.toList = p :: rest → h ≤ p.1 → f = p.2) ∧
  (∀ front p, c.points.toList = front ++ [p] → p.1 ≤ h → f = p.2) ∧
  (∀ front p q rest, c.points.toList = front ++ p :: q :: rest → p.1 ≤ h → h < q.1 →
    (f : Int) = (p.2 : Int) + Int.tdiv (((q.2 : Int) - p.2) * ((h : Int) - p.1)) ((q.1 : Int) - p.1))

/-- The soil table gives a factor for a soil class, taken as 1 where it is unset (R78, R81). -/
abbrev SoilTable.gives (t : SoilTable) (cls : Option Nat) (f : Nat) : Prop :=
  (cls = some 0 → f = t.f0) ∧ (cls = none ∨ cls = some 1 → f = t.f1) ∧ (cls = some 2 → f = t.f2) ∧ (cls = some 3 → f = t.f3)

/-- A supply entry limits a full stroke count (R83). -/
abbrev SupplyEntry.fallsShort (e : SupplyEntry) (full : Nat) : Prop := e.tracked = true ∧ e.estimate < full * e.stroke

/-- A dose record's factors, dose and stroke counts are those of R79 to R83 for its base, volume, hardness and reference, with the
tables, the soil class and the supply entry of a state. -/
abbrev DoseRecord.computedIn (r : DoseRecord) (s : State) : Prop :=
  clampedTo 128 512 (r.volume * 256 / r.vRef) r.v ∧ (r.agent = .rinseAid → r.h = 256 ∧ r.s = 256) ∧
  (r.agent ≠ .rinseAid → s.dsu.curve.gives r.hardness r.h ∧ ∀ x, s.wsc.ctx = some x → s.dsu.soil.gives x.soilClass r.s) ∧
  r.dose * 16777216 ≤ r.base * r.v * r.h * r.s + 8388608 ∧
  r.base * r.v * r.h * r.s + 8388608 < (r.dose + 1) * 16777216 ∧ r.strokeVolume = (s.entry r.agent.entry).stroke ∧
  (∀ n, n = (r.dose + r.strokeVolume / 2) / r.strokeVolume →
    r.full = (if n = 0 ∧ 0 < r.base then 1 else min 200 n)) ∧
  ((s.entry r.agent.entry).fallsShort r.full → r.planned = (s.entry r.agent.entry).estimate / r.strokeVolume) ∧
  (¬(s.entry r.agent.entry).fallsShort r.full → r.planned = r.full)

/-- What becomes of the one dose record just computed, `s` before and `t` after (R83, R85, R86): it strokes, or ends at once where
it plans no strokes; a plan cut short raises DOSE_SHORT, whose trap holds the wash with the record marked for recomputation. -/
abbrev State.doseTaken (s t : State) (n : DoseRecord) : Prop :=
  (n.planned = n.full → t.cdu = s.cdu ∧ t.wsc.wash = .running) ∧
  (n.planned = n.full ∨ ¬hasCondition s.cdu.traps .doseShort → t.wsc.wash = .running ∧
    (0 < n.planned → t.dsu.live = [{ n with state := .stroking }] ∧ t.dsu.ended = s.dsu.ended) ∧
    (n.planned = 0 → t.dsu.live = [] ∧ t.told .dose (.dose n.agent (if n.full = 0 then .done else .short)) ∧
      t.dsu.ended = s.dsu.ended ++ [{ n with state := if n.full = 0 then .done else .short }])) ∧
  (n.planned < n.full → State.recorded s t .doseShort) ∧
  (n.planned < n.full → hasCondition s.cdu.traps .doseShort → t.wsc.wash = .held ∧
    t.wsc.cause = some (.condition .doseShort) ∧ t.dsu.live = [{ n with state := .suspended, recompute := true }] ∧
    t.dsu.ended = s.dsu.ended ∧ t.hcu.heat = none ∧ t.hcu.demand = none ∧ t.hcu.pumpRuns = false)

/-! ## What replies show -/

/-- The unsigned figure that `n` bytes of a payload from an offset carry, most significant byte first (11.1). -/
def fieldAt (payload : List Byte) (offset n : Nat) : Nat :=
  ((payload.drop offset).take n).foldl (fun acc b => acc * 256 + b.toNat) 0

/-- The signed figure of a two-byte field, two's complement (11.1). -/
def signedAt (payload : List Byte) (offset : Nat) : Int := (BitVec.ofNat 16 (fieldAt payload offset 2)).toInt

/-- A supply entry's fields as a reply lists them (R73, R74): no stroke volume for SALT. -/
abbrev State.supplyShown (s : State) (e : Entry) : SupplyReport :=
  ⟨e, (s.entry e).capacity, (s.entry e).estimate, (s.entry e).lowMark, if e = .salt then none else some (s.entry e).stroke,
    (s.entry e).tracked, (s.entry e).state, (s.entry e).capOpen, (s.entry e).low, (s.entry e).refills⟩

end Sys2Proof.Machine
end

