-- ==== Sys2Proof/WellFormed.lean ====
section
/-! DEFINITION. Which commands can arrive: a request's fields fit the bytes the catalogue gives them (11.5), a curve has six
points and a soil table three thresholds and four factors, a temperature fits its two signed bytes, a humidity its byte (with
its sign), and a turbidity count is 0 to 1,023 (00). `exec` does not depend on it: it is a premise for statements. -/

namespace Sys2Proof

open Sys2Proof.Machine

/-- A number fits in `n` bytes. -/
def fits (n v : Nat) : Bool := decide (v < 256 ^ n)

/-- Fields fit their widths, one for one. -/
def fieldsFit : List Nat → List Nat → Bool
  | [], [] => true
  | w :: ws, v :: vs => fits w v && fieldsFit ws vs
  | _, _ => false

/-- A request's fields fit the widths of its kind. -/
def requestFits (i : Instr) : Bool :=
  match requestFields i with
  | none => false
  | some (kind, fields) =>
    match fieldWidths kind with
    | none => false
    | some ws => fieldsFit ws fields

/-- A temperature as its sensor gives it fits two signed bytes (R200). -/
def tempFits (t : Int) : Bool := decide (-32768 ≤ t ∧ t < 32768)

/-- A humidity as its sensor gives it. -/
def humFits (h : Int) : Bool := decide (-256 < h ∧ h < 256)

/-- First-scan readings whose figures fit. -/
def inputsFit (i : Inputs) : Bool := tempFits i.waterTemp && tempFits i.cabinetTemp && humFits i.cabinetHumidity

/-- A command that can arrive. -/
def wellFormed (i : Instr) : Bool :=
  match i with
  | .temperatureSample t => tempFits t
  | .cabinetSample t h => tempFits t && humFits h
  | .turbidityReading n => decide (n ≤ 1023)
  | .replySent x => inputsFit x
  | .powerOnReset x => inputsFit x
  | .uartByteReceived _ | .interByteTimeout | .supervisionTimerExpiry | .attentionScan | .flowPulse _ _
  | .fillTimeLimitExpiry | .drainEmptyCountExpiry | .drainLimitExpiry | .waterPresentSwitchChange _
  | .overfillSwitchChange _ | .leakFloatChange _ | .slowRinseEnd | .regenStageLimitExpiry | .capOpen _ | .capClose _
  | .lowSwitchLow _ | .lowSwitchNotLow _ | .strokeStart | .strokeDriveOff | .strokeSensorPulse _ | .senseWindowClose
  | .holdCountdownEnd | .zeroCrossing | .dryCountExpiry | .heatLimitExpiry | .camArrival _ | .diverterMoveTimeout
  | .zonePeriodEnd | .armPulse _ | .armCheckGraceEnd | .armGapExpiry | .hingeEncoderEdge _ _
  | .doorClosedSwitchChange _ | .latchSwitchChange _ | .releasePulseEnd | .releaseTimeout | .endSwitchChange _ _
  | .openerDriveTimeout | .openDelayExpiry | .coolingLimitExpiry | .dryTimeReached | .minDryTimeReached
  | .dryCommandRetry | .testDurationExpiry _ | .waterAbsentTimeout => true
  | .setWater .. | .setColumn .. | .setRegen .. | .setSupply .. | .loadCurve _ | .loadSoil _ _ | .setPolicy _ | .setDry ..
  | .queuePhase _ | .cancelPhase _ | .start | .pause | .resume | .abort | .editContext _ _ | .clearConditions _ _
  | .regenNow _ | .opener _ | .enterService | .leaveService | .test _ _ | .leaveSafe | .reset | .getStatus | .getPhases
  | .getContext | .getColumns | .getSupply | .getFills _ | .getDoses | .getConditions | .getDoor | .getAttention
  | .ackAttention _ => requestFits i

end Sys2Proof
end

