-- ==== Sys2Proof/Certificates/Slice0/Obligations.lean ====
section
/-! DEFINITION. The statements for the provers, in the order of the families: the step and the resets, the link, the queries, the
settings, the program, SAFE, water, regeneration, reservoirs, dosing, wash and heat, door, drying, service, and the rules that every
step keeps. Each cites the rules of spec/ it formalises. -/

open Sys2Proof Sys2Proof.Machine

/-! ## The step and the resets -/

/-- O1. A step takes the command at the front of the queue, and the command sees the queue without itself: commands are taken in
the order in which they come, each as one whole step (log 1). -/
def Obligations.StepTakesTheFrontCommand : Prop :=
  ∀ (c : Instr) (rest : List Instr) (s : State), s.pending = c :: rest → step s = exec c { s with pending := rest }

/-- O2. The model's choice (log 2): on an empty queue one millisecond passes. Every count that its rule keeps running is advanced:
the receiver's gap, the supervision timer and the line's low time (R191, R194, R196), the fill time and a drain's two counts (R12,
R16), a run's stage time (3.2), the time since the last drive (R98), the hold countdown (R112), the heater's and the pump's counts
(R132, R134 to R140), the opener's two (R153, R154), the drying run's two (R163, R166) and those of the service tests (R187, R188).
Nothing is raised, ended, reported or switched: every field but the counts is as it was, and what a count stands in keeps everything
else. That an ended regeneration run and an ended drying run count no further is the model's choice too (logs 34 and 38). -/
def Obligations.IdleStepOnlyAdvancesCounts : Prop :=
  ∀ s : State, s.pending = [] → ∃ t, step s = .next t ∧ t.uptimeMs = s.uptimeMs + 1 ∧
    t.lkp.gapMs = (if s.lkp.rx = .outside then s.lkp.gapMs else s.lkp.gapMs + 1) ∧
    t.lkp.supervision = s.lkp.supervision.map (· + 1) ∧
    t.lkp.lineLowMs = (if s.lkp.latch = none then 1 else s.lkp.lineLowMs) ∧
    t.wpu.fillMs = (if s.wpu.grant = some .fill ∧ s.wpu.valveOpen = true then s.wpu.fillMs + 1 else s.wpu.fillMs) ∧
    t.wpu.drain = s.wpu.drain.map (fun d => ⟨d.limitMs + 1, if s.wpu.waterPresent = true then 0 else d.emptyMs + 1⟩) ∧
    t.sfu.run = s.sfu.run.map (fun r => if r.outcome = none then { r with stageMs := r.stageMs + 1 } else r) ∧
    t.dsu.sinceDriveMs = min 65535 (s.dsu.sinceDriveMs + 1) ∧
    (∀ a, s.wsc.active = some a → s.wsc.wash = .running → a.stage = .hold → a.holdEnded = false →
      a.target ≤ 0 ∨ s.hcu.heat.bind HeatRequest.band = some true → 0 < a.holdSec → a.holdFracMs < 1000 →
      ∃ b, t.wsc.active = some b ∧ b.holdSec * 1000 + 999 - b.holdFracMs + 1 = a.holdSec * 1000 + 999 - a.holdFracMs) ∧
    (∀ a, s.wsc.active = some a →
      s.wsc.wash ≠ .running ∨ a.stage ≠ .hold ∨ a.holdEnded = true ∨ a.holdSec = 0 ∨
        0 < a.target ∧ s.hcu.heat.bind HeatRequest.band ≠ some true →
      t.wsc.active = some a) ∧
    t.wsc.active.map (fun a => { a with holdSec := 0, holdFracMs := 0 }) =
      s.wsc.active.map (fun a => { a with holdSec := 0, holdFracMs := 0 }) ∧
    t.hcu.dry = (match s.hcu.dry with
      | .counting n => .counting (n + 1)
      | .stopped => .stopped
      | .raised => .raised) ∧
    t.hcu.heatMs = (if s.hcu.heat.map (fun r => (r.mode, r.reached)) = some (.heat, false) then s.hcu.heatMs + 1 else
      s.hcu.heatMs) ∧
    ((s.hcu.demand ≠ none ∧ s.dru.opener = .retracted ∧ (s.cdu.mode = .run ∨ s.cdu.mode = .service)) →
      t.hcu.circMs = s.hcu.circMs + 1 ∧
      t.hcu.periodMs = (if s.hcu.move = none ∧ s.hcu.zone ≠ none ∧ s.hcu.cam.zone = s.hcu.zone then s.hcu.periodMs + 1
        else s.hcu.periodMs)) ∧
    (s.hcu.demand = none ∨ s.dru.opener ≠ .retracted ∨ s.cdu.mode = .standby ∨ s.cdu.mode = .safe →
      t.hcu.circMs = s.hcu.circMs ∧ t.hcu.periodMs = s.hcu.periodMs) ∧
    t.hcu.watch = (match s.hcu.watch with
      | .grace n => .grace (n + 1)
      | .watching n => .watching (n + 1)
      | .none => .none) ∧
    t.hcu.move = s.hcu.move.map (fun m => { m with ms := m.ms + 1 }) ∧
    t.hcu.lowerArm = { s.hcu.lowerArm with sinceMs := s.hcu.lowerArm.sinceMs.map (· + 1) } ∧
    t.hcu.upperArm = { s.hcu.upperArm with sinceMs := s.hcu.upperArm.sinceMs.map (· + 1) } ∧
    t.dru.moveMs = (if s.dru.phase = none then s.dru.moveMs else s.dru.moveMs + 1) ∧
    t.dru.pulseMs = (if s.dru.solenoid = true then s.dru.pulseMs + 1 else s.dru.pulseMs) ∧
    t.dyc.run = s.dyc.run.map (fun r =>
      if r.state = .ended ∨ r.suspended = true then r
      else { r with
        stateMs := r.stateMs + 1
        dryMs := if r.state = .ajar ∨ r.state = .yielding ∨ r.state = .closedDry then r.dryMs + 1 else r.dryMs }) ∧
    (∀ a, t.testEntry a = { s.testEntry a with
      progressMs :=
        if (s.testEntry a).running = true ∧
            (a = .inlet ∧ s.wpu.grant = some .test ∨ a = .drainPump ∨ a = .circPump ∨ a = .heater ∨ a = .fan) then
          (s.testEntry a).progressMs + 1
        else (s.testEntry a).progressMs }) ∧
    t.cdu.dryWaterMs = (if s.wpu.waterPresent = true then s.cdu.dryWaterMs else s.cdu.dryWaterMs + 1) ∧
    { t with
      uptimeMs := s.uptimeMs
      lkp := { t.lkp with gapMs := s.lkp.gapMs, supervision := s.lkp.supervision, lineLowMs := s.lkp.lineLowMs }
      wpu := { t.wpu with fillMs := s.wpu.fillMs, drain := s.wpu.drain }
      sfu := { t.sfu with run := s.sfu.run }
      dsu := { t.dsu with sinceDriveMs := s.dsu.sinceDriveMs }
      wsc := { t.wsc with active := s.wsc.active }
      hcu := { t.hcu with
        dry := s.hcu.dry, heatMs := s.hcu.heatMs, circMs := s.hcu.circMs, periodMs := s.hcu.periodMs, move := s.hcu.move
        watch := s.hcu.watch, lowerArm := s.hcu.lowerArm, upperArm := s.hcu.upperArm }
      dru := { t.dru with moveMs := s.dru.moveMs, pulseMs := s.dru.pulseMs }
      dyc := { t.dyc with run := s.dyc.run }
      cdu := { t.cdu with tests := s.cdu.tests, dryWaterMs := s.cdu.dryWaterMs } } = s

/-- O3. State.reset keeps every rule that the invariants below state: the base of the tier 3 statements. -/
def Obligations.ResetKeepsTheRules : Prop :=
  State.reset.accountBalances ∧ State.reset.inletGuarded ∧ State.reset.tablesBounded ∧ State.reset.linkOrdered ∧
  State.reset.columnsKept ∧ State.reset.suppliesKept ∧ State.reset.hingeKept ∧ State.reset.openerGuarded ∧
  State.reset.modeAgrees ∧ State.reset.pumpGuarded

/-- O4. POWER_ON_RESET (R21, R43, R61, R76, R99, R127, R144, R160, R174, R189, R199): whatever the state was, the ten blocks stand
at their power-on values; the door, latch, end, cam and cap fields follow the first scan. Where the manual gives a field no value,
the value is the model's choice (log 5): the fill, heat, period and move times, the link's frame in service, the period and limit of
a phase, the last mean. Two more points are the model's: that no source but SUPPLY, so DOOR neither, is pending afterwards (log 36),
and that the queue of commands is kept (log 25). A first scan that finds water where none may be, or a temperature from 85.0 °C or
out of range, enters SAFE with exactly those causes (R18, R128, R183). -/
def Obligations.PowerOnResetValues : Prop :=
  (∀ (i : Inputs) (s : State), i.overfillClosed = false → i.leakWet = false → 0 ≤ i.waterTemp → i.waterTemp < 850 →
    ∃ t, exec (.powerOnReset i) s = .next t ∧ t.pending = s.pending ∧ t.uptimeMs = 0 ∧
      t.wpu = ⟨none, none, none, none, false, false, 0, 0, 0, 0, 0, 0, none, 0, [], none, false, false, false, i.waterPresent,
        ⟨500, 0, 40, 4000, 1⟩⟩ ∧
      t.sfu = ⟨⟨.fresh, 12000000, 12000000, 0, 0, 0, none, false⟩, ⟨.fresh, 12000000, 12000000, 0, 0, 0, none, false⟩, .a, none,
        false, none, false, false, [], none, ⟨300, 240, 1500, .anytime, true⟩⟩ ∧
      t.spt = ⟨⟨4000, if i.detergentLow then 600 else 0, 600, 5, i.detergentLow, i.detergentCapOpen, i.detergentLow, 0⟩,
        ⟨1100, if i.rinseLow then 200 else 0, 200, 2, i.rinseLow, i.rinseCapOpen, i.rinseLow, 0⟩,
        ⟨2500, if i.additiveLow then 300 else 0, 300, 5, i.additiveLow, i.additiveCapOpen, i.additiveLow, 0⟩,
        ⟨1200, if i.saltLow then 150 else 0, 150, 0, i.saltLow, i.saltCapOpen, i.saltLow, 0⟩⟩ ∧
      t.dsu.curve.points.toList = [(0, 200), (30, 230), (60, 256), (120, 300), (250, 380), (500, 460)] ∧
      t.dsu.soil = ⟨200, 450, 700, 230, 256, 288, 340⟩ ∧ t.dsu.live = [] ∧ t.dsu.ended = [] ∧ t.dsu.flight = none ∧
      t.dsu.drive = none ∧ t.dsu.testRec = none ∧ 500 ≤ t.dsu.sinceDriveMs ∧ t.wsc = ⟨[], none, .idle, none, none, false⟩ ∧
      t.hcu = ⟨i.waterTemp, false, none, 0, .idle, false, .stopped, 0, none, false, 0, 0, 0, 0, 0, true, false, i.cam, none, none,
        none, 0, .none, ⟨0, 0, 0, 0, none⟩, ⟨0, 0, 0, 0, none⟩, none, 0, none⟩ ∧
      t.dru = ⟨0, i.doorClosed, none, 0, i.doorClosed, i.latchEngaged, i.encoderA, i.encoderB,
        if i.endRetracted then .retracted else .unknownPosition, .retract, .host, none, 0, i.endRetracted, i.endExtended, none,
        false, false, 0, none⟩ ∧
      t.dyc.settings = ⟨120, 550, 1800, 45, true⟩ ∧ t.dyc.run = none ∧ t.dyc.cabTemp = i.cabinetTemp ∧
      t.dyc.cabHum = i.cabinetHumidity ∧ t.cdu.mode = .standby ∧ t.cdu.causes = 0 ∧ t.cdu.flags = 0 ∧ t.cdu.traps = 0 ∧
      t.cdu.counts = Vector.replicate 21 0 ∧ t.cdu.safeSet = [] ∧
      (∀ a, (t.testEntry a).running = false ∧ (t.testEntry a).outcome = none) ∧
      t.lkp.rx = .outside ∧ t.lkp.inService = none ∧ t.lkp.waiting = none ∧ t.lkp.overrun = none ∧ t.lkp.supervision = none ∧
      t.lkp.latch = none ∧ t.lkp.lastLatched = .fill ∧ (∀ src, src ≠ .supply → t.pendingSource src = false)) ∧
  (∀ (i : Inputs) (s : State),
    i.overfillClosed = true ∨ i.leakWet = true ∨ i.waterTemp < 0 ∨ 850 ≤ i.waterTemp →
    ∃ t, exec (.powerOnReset i) s = .next t ∧ t.cdu.mode = .safe ∧ t.told .mode (.mode .safe) ∧
      (∀ c, c ∈ t.cdu.safeSet ↔ c = .overfill ∧ i.overfillClosed = true ∨ c = .leak ∧ i.leakWet = true ∨
        c = .sensorFault ∧ (i.waterTemp < 0 ∨ 990 < i.waterTemp) ∨
        c = .overtemp ∧ 850 ≤ i.waterTemp ∧ i.waterTemp ≤ 990) ∧
      (∀ c, hasCondition t.cdu.causes c ↔ c ∈ t.cdu.safeSet) ∧ t.wpu.inhibit = true ∧
      t.wpu.drainPump = (i.leakWet || i.waterPresent) ∧ t.wsc = ⟨[], none, .idle, none, none, false⟩ ∧ t.hcu.temp = i.waterTemp)

/-- O5. RESET and the commanded reset (R199, R22, R44, R77, R100, R127, R160, R174, R190): the request is only answered OK, and the
reset takes effect when that reply has been sent. Settings, dose tables, trap enables and the columns' learned figures stay; the
account, the program, the causes, flags and counts, the heat and circulation figures and the moves are cleared, and MODE attention
is set. A regeneration run that starts again at the end may record SALT_EMPTY. The premises keep the first scan from changing a
reservoir or raising a condition. The frame in service, the armed reset and the figures of a phase, a fill's time and a move's are
the model's choice (log 5), and so is the kept queue of commands (log 25). -/
def Obligations.CommandedResetAtReplySent : Prop :=
  (∀ s : State, exec .reset s =
    .next { s with lkp := { s.lkp.heard.answered 0x3F (.ok .empty) with resetArmed := true } }) ∧
  ∀ (i : Inputs) (s : State), s.lkp.inService ≠ none → s.lkp.resetArmed = true →
    i.overfillClosed = false → i.leakWet = false → 0 ≤ i.waterTemp → i.waterTemp < 850 →
    (∀ e, i.cap e = (s.entry e).capOpen) → (∀ e, i.low e = (s.entry e).low) →
    ∃ t, exec (.replySent i) s = .next t ∧ t.pending = s.pending ∧ t.uptimeMs = 0 ∧
      t.wpu.total = 0 ∧ t.wpu.fillTotal = 0 ∧ t.wpu.serviceCount = 0 ∧ t.wpu.unattributed = 0 ∧ t.wpu.regenTotal = 0 ∧
      t.wpu.settings = s.wpu.settings ∧ t.wpu.fillRec = none ∧ t.wpu.drain = none ∧ t.wpu.waitFill = none ∧
      t.wpu.grant ≠ some .fill ∧
      (s.wpu.fillRec = none → t.wpu.ledger = s.wpu.ledger) ∧
      (∀ r, s.wpu.fillRec = some r → ∃ c, t.wpu.ledger.head? = some c ∧ c.phaseId = r.phaseId ∧ c.pulses = r.pulses ∧
        (c.closed.map FillClose.outcome) = some .abandoned) ∧
      (s.runIn .brine = false → t.spt = s.spt) ∧ t.wpu.window = 0 ∧
      t.sfu.settings = s.sfu.settings ∧ (∀ c, (t.col c).nominal = (s.col c).nominal) ∧
      (∀ c, (t.col c).residue = (s.col c).residue) ∧ (∀ c, (t.col c).regenCount = (s.col c).regenCount) ∧
      t.dsu.curve = s.dsu.curve ∧ t.dsu.soil = s.dsu.soil ∧ t.dsu.live = [] ∧ t.dsu.ended = [] ∧ t.dsu.drive = none ∧
      t.wsc = ⟨[], none, .idle, none, none, false⟩ ∧
      t.hcu = ⟨i.waterTemp, false, none, 0, .idle, false, .stopped, 0, none, false, 0, 0, 0, 0, 0, true, false, i.cam, none, none,
        none, 0, .none, ⟨0, 0, 0, 0, none⟩, ⟨0, 0, 0, 0, none⟩, none, 0, none⟩ ∧
      t.dru = ⟨0, i.doorClosed, none, 0, i.doorClosed, i.latchEngaged, i.encoderA, i.encoderB,
        if i.endRetracted then .retracted else .unknownPosition, .retract, .host, none, 0, i.endRetracted, i.endExtended, none,
        false, false, 0, none⟩ ∧
      t.dyc.settings = s.dyc.settings ∧ t.dyc.run = none ∧ t.cdu.mode = .standby ∧ t.cdu.traps = s.cdu.traps ∧
      t.cdu.safeSet = [] ∧ (∀ a, (t.testEntry a).running = false) ∧ t.told .mode (.mode .standby) ∧
      (∀ c, hasCondition t.cdu.causes c ∨ hasCondition t.cdu.flags c ∨ 0 < t.cdu.counts[c.idx] → c = .saltEmpty) ∧
      (s.sfu.list = [] → t.cdu.causes = 0 ∧ t.cdu.flags = 0 ∧ t.cdu.counts = Vector.replicate 21 0) ∧
      t.lkp.inService = none ∧ t.lkp.waiting = none ∧ t.lkp.resetArmed = false ∧ t.lkp.supervision = none

/-! ## The link (chapter 11) -/

/-- O6. The message catalogue read back (11.5, R192, R201): every request whose fields fit their bytes has a frame's kind and
payload, and decoding these gives the request again with every field. -/
def Obligations.RequestsDecodeToThemselves : Prop :=
  ∀ i : Instr, requestFits i = true →
    ∃ kind payload, encodeRequest i = some (kind, payload) ∧ payload.length ≤ 63 ∧ decodeRequest kind payload = .request i

/-- O7. The bytes of a request's frame, received one after the other while no frame is in service, run the request exactly as its
own row does (R191, R192; log 1). -/
def Obligations.FrameBytesRunTheRequest : Prop :=
  ∀ (i : Instr) (kind : Byte) (payload : List Byte) (s : State), requestFits i = true →
    encodeRequest i = some (kind, payload) → s.lkp.rx = .outside → s.lkp.inService = none → s.lkp.sending = none →
    (frameBytes kind payload).foldl
        (fun o b => match o with
          | .next u => exec (.uartByteReceived b) u
          | stop => stop) (.next s) =
      exec i { s with lkp := { s.lkp with gapMs := 0 } }

/-- O8. The receiver and its buffers (R191, R193, R194): outside a frame only A5h is taken; inside one, a length of 0 or above 64
drops the frame with a LENGTH refusal for kind 00h, any other byte that is not the last is kept, and a last byte that is not the CRC
gives a FRAME refusal for kind 00h. That a gap of "more than 10 ms", which drops the frame without a reply, is a count of 10 or more
whole milliseconds is the model's choice (log 3). A frame that completes while one is in service, or while an OVERRUN refusal is
being sent (11.8; log 9), waits; behind a waiting frame only its kind is kept, in the overrun slot, as 00h for a failure; with that
slot full it is lost. A valid frame, and no failure, restarts a running supervision timer. -/
def Obligations.ReceiverTakesFrames : Prop :=
  (∀ (b : Byte) (s : State), s.lkp.rx = .outside → b ≠ 0xA5 → exec (.uartByteReceived b) s = .next s) ∧
  (∀ s : State, s.lkp.rx = .outside →
    exec (.uartByteReceived 0xA5) s = .next { s with lkp := { s.lkp with rx := .inside [], gapMs := 0 } }) ∧
  (∀ (b : Byte) (s : State), s.lkp.rx = .inside [] → s.lkp.inService = none → s.lkp.sending = none → (b.toNat = 0 ∨ 64 < b.toNat) →
    exec (.uartByteReceived b) s =
      .next { s with lkp := { s.lkp.answered 0 (.refused .length) with rx := .outside, gapMs := 0 } }) ∧
  (∀ (b : Byte) (s : State), s.lkp.rx = .inside [] → 0 < b.toNat → b.toNat ≤ 64 →
    exec (.uartByteReceived b) s = .next { s with lkp := { s.lkp with rx := .inside [b], gapMs := 0 } }) ∧
  (∀ (len : Byte) (bytes : List Byte) (b : Byte) (s : State), s.lkp.rx = .inside (len :: bytes) →
    bytes.length < len.toNat →
    exec (.uartByteReceived b) s = .next { s with lkp := { s.lkp with rx := .inside (len :: bytes ++ [b]), gapMs := 0 } }) ∧
  (∀ (len kind : Byte) (payload : List Byte) (b : Byte) (s : State), s.lkp.rx = .inside (len :: kind :: payload) →
    payload.length + 1 = len.toNat → s.lkp.inService = none → s.lkp.sending = none → b ≠ crc8 (len :: kind :: payload) →
    exec (.uartByteReceived b) s =
      .next { s with lkp := { s.lkp.answered 0 (.refused .frame) with rx := .outside, gapMs := 0 } }) ∧
  (∀ s : State, exec .interByteTimeout s =
    .next (if s.lkp.rx = .outside ∨ s.lkp.gapMs < 10 then s else { s with lkp := { s.lkp with rx := .outside, gapMs := 0 } })) ∧
  (∀ (len kind : Byte) (payload : List Byte) (crc : Byte) (s : State), s.lkp.rx = .inside (len :: kind :: payload) →
    payload.length + 1 = len.toNat → crc = crc8 (len :: kind :: payload) → s.lkp.inService ≠ none ∨ s.lkp.sending ≠ none →
    ∃ waiting overrun, exec (.uartByteReceived crc) s =
        .next { s with lkp := { s.lkp.heard with rx := .outside, gapMs := 0, waiting := waiting, overrun := overrun } } ∧
      (s.lkp.waiting = none → waiting = some (.valid kind payload) ∧ overrun = s.lkp.overrun) ∧
      (s.lkp.waiting ≠ none → waiting = s.lkp.waiting ∧
        overrun = (if s.lkp.overrun = none then some kind else s.lkp.overrun))) ∧
  (∀ (b : Byte) (s : State), s.lkp.rx = .inside [] → b.toNat = 0 ∨ 64 < b.toNat → s.lkp.inService ≠ none ∨ s.lkp.sending ≠ none →
    ∃ waiting overrun, exec (.uartByteReceived b) s =
        .next { s with lkp := { s.lkp with rx := .outside, gapMs := 0, waiting := waiting, overrun := overrun } } ∧
      (s.lkp.waiting = none → waiting = some .lengthFailure ∧ overrun = s.lkp.overrun) ∧
      (s.lkp.waiting ≠ none → waiting = s.lkp.waiting ∧
        overrun = (if s.lkp.overrun = none then some 0 else s.lkp.overrun))) ∧
  (∀ (len kind : Byte) (payload : List Byte) (b : Byte) (s : State), s.lkp.rx = .inside (len :: kind :: payload) →
    payload.length + 1 = len.toNat → b ≠ crc8 (len :: kind :: payload) → s.lkp.inService ≠ none ∨ s.lkp.sending ≠ none →
    ∃ waiting overrun, exec (.uartByteReceived b) s =
        .next { s with lkp := { s.lkp with rx := .outside, gapMs := 0, waiting := waiting, overrun := overrun } } ∧
      (s.lkp.waiting = none → waiting = some .crcFailure ∧ overrun = s.lkp.overrun) ∧
      (s.lkp.waiting ≠ none → waiting = s.lkp.waiting ∧
        overrun = (if s.lkp.overrun = none then some 0 else s.lkp.overrun)))

/-- O9. REPLY_SENT without an armed reset (R193, 11.8): the frame leaves service. Where the overrun slot is full, the OVERRUN
refusal of the recorded kind is sent and the slot is emptied, and the waiting frame waits until that refusal has been sent, which is
read from 11.8 (log 9). Otherwise, and at the end of the refusal, the waiting frame is served: by its owner where it is a request,
with an UNKNOWN or FIELD refusal where it is none, with LENGTH or FRAME for kind 00h where it is a failure. While no reply is being
sent, nothing changes (log 26). -/
def Obligations.ReplySentServesTheWaitingFrame : Prop :=
  (∀ (i : Inputs) (s : State), s.lkp.inService = none → s.lkp.sending = none → exec (.replySent i) s = .next s) ∧
  (∀ (i : Inputs) (k : Byte) (s : State), s.lkp.inService ≠ none → s.lkp.resetArmed = false → s.lkp.overrun = some k →
    exec (.replySent i) s =
      .next { s with lkp := { s.lkp with inService := none, sending := some ⟨k, .refused .overrun⟩, overrun := none } }) ∧
  (∀ (i : Inputs) (s : State),
    s.lkp.inService ≠ none ∧ s.lkp.resetArmed = false ∧ s.lkp.overrun = none ∨ s.lkp.inService = none ∧ s.lkp.sending ≠ none →
    (s.lkp.waiting = none →
      exec (.replySent i) s = .next { s with lkp := { s.lkp with inService := none, sending := none } }) ∧
    (s.lkp.waiting = some .lengthFailure →
      exec (.replySent i) s = .next { s with lkp := { s.lkp.answered 0 (.refused .length) with waiting := none } }) ∧
    (s.lkp.waiting = some .crcFailure →
      exec (.replySent i) s = .next { s with lkp := { s.lkp.answered 0 (.refused .frame) with waiting := none } }) ∧
    (∀ kind payload, s.lkp.waiting = some (.valid kind payload) → fieldWidths kind.toNat = none →
      exec (.replySent i) s = .next { s with lkp := { s.lkp.answered kind (.refused .unknown) with waiting := none } }) ∧
    (∀ kind payload ws, s.lkp.waiting = some (.valid kind payload) → fieldWidths kind.toNat = some ws →
      payload.length ≠ ws.sum →
      exec (.replySent i) s = .next { s with lkp := { s.lkp.answered kind (.refused .field) with waiting := none } }) ∧
    (∀ kind payload r, s.lkp.waiting = some (.valid kind payload) → requestFits r = true →
      encodeRequest r = some (kind, payload) → s.lkp.supervision = none →
      exec (.replySent i) s =
        exec r { s with lkp := { s.lkp with inService := none, waiting := none, sending := none } }))

/-- O10. ATTENTION_SCAN, GET-ATTENTION and ACK-ATTENTION (R196, R197, R198): with the latch empty and the line low for its 1 ms, the
first pending source after the last latched number, 11 being followed by 0, is latched; otherwise a scan changes nothing. That an
acknowledgement which empties the latch owes a millisecond of a low line where another source is pending, and only there, and that
it must have passed before the next latch, is read from R196 (log 32). The latched source is offered with its summary padded with
00h, FFh and zeros where there is none; an acknowledgement clears that source alone, empties the latch where it holds it, and is
answered with the sources still pending. -/
def Obligations.AttentionIsLatchedInTurnAndAcknowledged : Prop :=
  (∀ (src : Source) (k : Nat) (s : State), s.lkp.latch = none → 1 ≤ s.lkp.lineLowMs → k < 12 →
    src.idx.val = (s.lkp.lastLatched.idx.val + 1 + k) % 12 → s.pendingSource src = true →
    (∀ x : Source, ∀ j, j < k → x.idx.val = (s.lkp.lastLatched.idx.val + 1 + j) % 12 → s.pendingSource x = false) →
    exec .attentionScan s = .next { s with lkp := { s.lkp with latch := some src, lastLatched := src } }) ∧
  (∀ s : State, (∀ x, s.pendingSource x = false) → exec .attentionScan s = .next s) ∧
  (∀ s : State, s.lkp.latch ≠ none ∨ s.lkp.lineLowMs = 0 → exec .attentionScan s = .next s) ∧
  (∀ (src : Source) (sm : Summary) (s : State), s.lkp.latch = some src → s.told src sm →
    ∃ zeros, exec .getAttention s =
        .next (s.onlyAnswered 0x49 (.ok (.bytes (BitVec.ofNat 8 src.idx.val :: (sm.bytes ++ zeros))))) ∧
      (sm.bytes ++ zeros).length = 5 ∧ ∀ z ∈ zeros, z = 0) ∧
  (∀ s : State, s.lkp.latch = none → exec .getAttention s = .next (s.onlyAnswered 0x49 (.ok (.bytes [0xFF, 0, 0, 0, 0, 0])))) ∧
  (∀ (n : Nat) (s : State), 11 < n → exec (.ackAttention n) s = .next (s.onlyAnswered 0x4A (.refused .field))) ∧
  (∀ (src : Source) (s : State), ∃ (t : State) (w : Nat),
    exec (.ackAttention src.idx.val) s = .next t ∧ t.lkp.sending = some ⟨0x4A, .ok (.bytes (be2 w))⟩ ∧
    (∀ x : Source, w.testBit x.idx.val = t.pendingSource x) ∧
    (∀ x : Source, t.pendingSource x = (s.pendingSource x && decide (x ≠ src))) ∧
    t.lkp.latch = (if s.lkp.latch = some src then none else s.lkp.latch) ∧ t.lkp.lastLatched = s.lkp.lastLatched ∧
    (∀ x : Source, s.lkp.latch = some src → x ≠ src → s.pendingSource x = true → t.lkp.lineLowMs = 0) ∧
    (s.lkp.latch = some src → (∀ x : Source, x ≠ src → s.pendingSource x = false) → t.lkp.lineLowMs = 1) ∧
    (s.lkp.latch ≠ some src → t.lkp.lineLowMs = s.lkp.lineLowMs) ∧
    { t with lkp := s.lkp } = s)

/-! ## Queries -/

/-- O11. The nine queries (R200, R104, R126, R120, R42, R60, R74, R98, R181, R159, R15, R202): each is answered from the state as it
stands and changes nothing else. The status reply has 62 bytes, and 84 with a drying run record, with its figures at R200's offsets,
as far as they fit their fields; phase records come as their 23 bytes; times come in whole seconds; SALT has no stroke volume. The
held context has the phase's fill record, open or closed; that its fill seconds are the last fill's where the phase has no record is
the model's choice (log 41). GET-FILLS reads 0 to 7 as a closed record, 0 the newest, and FFh as the open one, in 33 bytes at R202's
offsets; an index without a record is NOT_FOUND, any other index FIELD. -/
def Obligations.QueriesOnlyAnswer : Prop :=
  (∀ s : State,
    exec .getStatus s = .next (s.onlyAnswered 0x40 (.ok (.bytes s.statusBytes))) ∧
    s.statusBytes.length = (match s.dyc.run with
      | some _ => 84
      | none => 62) ∧
    s.statusBytes.head? = some s.cdu.mode.code ∧
    exec .getPhases s = .next (s.onlyAnswered 0x41 (.ok (.phases s.wsc.queue.length (s.wsc.queue.map PhaseRecord.bytes)
      (s.wsc.active.map fun a => (a.record.id, a.record.kind))))) ∧
    exec .getContext s = .next (s.onlyAnswered 0x42 (.ok (.context s.wsc.wash s.wsc.abortDrain
      (s.wsc.active.map fun a => ⟨a.record.bytes, a.stage, a.holdSec, a.target, a.detergentAsked, a.rinseAsked⟩) s.wsc.ctx
      s.heldContext))) ∧
    (∀ blend, (∀ b r, s.sfu.blend = some b → s.wpu.fillRec = some r → blend = some (b, r.pulses % 32)) →
      (s.sfu.blend = none ∨ s.wpu.fillRec = none → blend = none) →
      exec .getColumns s = .next (s.onlyAnswered 0x43 (.ok (.columns s.sfu.colA s.sfu.colB s.sfu.pref s.sfu.list blend
        (s.sfu.run.map fun r => ⟨r.column, r.stage, r.restarted, r.brine, r.slow, r.fast, r.window, r.stageK, r.targetPulses,
          r.stagePulses, r.stageMs / 1000, r.brineMl, r.salt, r.saltEmpty, r.outcome⟩))))) ∧
    exec .getSupply s = .next (s.onlyAnswered 0x44 (.ok (.supplies
      [s.supplyShown .detergent, s.supplyShown .rinseAid, s.supplyShown .additive, s.supplyShown .salt]))) ∧
    exec .getDoses s = .next (s.onlyAnswered 0x46 (.ok (.doses s.dsu.live s.dsu.ended (s.dsu.flight.map Flight.agent)
      s.dsu.sinceDriveMs s.dsu.curve s.dsu.soil s.dsu.testRec))) ∧
    exec .getConditions s = .next (s.onlyAnswered 0x47 (.ok (.conditions s.cdu.mode s.cdu.causes s.cdu.flags s.cdu.traps
      s.cdu.counts (s.cdu.safeSet.map fun c => (c, s.activeTest c))
      (s.cdu.tests.map fun q => ⟨q.running, q.amount, q.progressMs / 1000, q.driven, q.sensed, q.arrived, q.cam, q.rod,
        q.outcome⟩)))) ∧
    exec .getDoor s = .next (s.onlyAnswered 0x48 (.ok (.door s.dru.angle s.dru.referenced s.dru.direction s.dru.changes
      s.doorClass s.dru.doorClosed s.dru.latched s.dru.endRetracted s.dru.endExtended s.dru.opener s.dru.commanded s.dru.issuer
      (s.dru.phase.map fun p => (p, s.dru.moveMs)) s.dru.dryHold s.dru.last)))) ∧
  (∀ s : State, s.wsc.wash ≠ .held ∨ s.wsc.active = none → s.heldContext = none) ∧
  (∀ (a : ActivePhase) (s : State), s.wsc.wash = .held → s.wsc.active = some a →
    ∃ h, s.heldContext = some h ∧ h.phaseId = a.record.id ∧ h.kind = a.record.kind ∧ h.stage = a.stage ∧
      h.cause = s.wsc.cause ∧ h.holdSec = a.holdSec ∧ h.target = a.target ∧ h.detergentAsked = a.detergentAsked ∧
      h.rinseAsked = a.rinseAsked ∧ h.fillSec = s.wpu.fillMs / 1000 ∧ h.live = s.dsu.live ∧ h.ended = s.dsu.ended ∧
      h.heatSec = s.hcu.heatMs / 1000 ∧ h.zone = s.hcu.zone ∧ h.periodSec = s.hcu.periodMs / 1000 ∧
      h.dropped = s.hcu.dropped ∧ h.circSec = s.hcu.circMs / 1000 ∧
      (∀ r, s.wpu.fillRec = some r → h.fill = some ⟨true, r.pulses, r.targetPulses⟩ ∧ h.windowPos = some (r.pulses % 32)) ∧
      (∀ r rest, s.wpu.fillRec = none → a.filled = true → s.wpu.ledger = r :: rest →
        h.fill = some ⟨false, r.pulses, r.targetPulses⟩ ∧ h.windowPos = none) ∧
      (s.wpu.fillRec = none → a.filled = false → h.fill = none)) ∧
  (∀ (index : Nat) (r : FillRecord) (s : State), s.wpu.ledger.length ≤ 8 → r.phaseId ≤ 255 →
    (index < 8 ∧ s.wpu.ledger[index]? = some r ∨ index = 255 ∧ s.wpu.fillRec = some r) →
        ∃ p, exec (.getFills index) s = .next (s.onlyAnswered 0x45 (.ok (.bytes p))) ∧ p.length = 33 ∧
      fieldAt p 0 1 = s.wpu.ledger.length ∧ fieldAt p 1 1 = index ∧ fieldAt p 2 1 = r.phaseId ∧
      (r.closed = none → fieldAt p 3 1 = 0 ∧ fieldAt p 29 2 = 65535 ∧ fieldAt p 31 2 = 65535) ∧
      (∀ c, r.closed = some c → fieldAt p 3 1 = (match c.outcome with
          | .complete => 1
          | .shortAccepted => 2
          | .abandoned => 3) ∧
        (c.delivered ≤ 65535 → fieldAt p 29 2 = c.delivered) ∧ (c.hardness ≤ 65535 → fieldAt p 31 2 = c.hardness)) ∧
      (r.target ≤ 65535 → fieldAt p 4 2 = r.target) ∧ (r.targetPulses ≤ 65535 → fieldAt p 6 2 = r.targetPulses) ∧
      (r.pulses ≤ 65535 → fieldAt p 8 2 = r.pulses) ∧ (r.bypass ≤ 65535 → fieldAt p 10 2 = r.bypass) ∧
      (r.colA ≤ 65535 → fieldAt p 12 2 = r.colA) ∧ (r.colB ≤ 65535 → fieldAt p 14 2 = r.colB) ∧
      (r.hRaw ≤ 65535 → fieldAt p 16 2 = r.hRaw) ∧ (r.hT ≤ 65535 → fieldAt p 18 2 = r.hT) ∧
      (r.k ≤ 65535 → fieldAt p 20 2 = r.k) ∧ (r.vRef ≤ 65535 → fieldAt p 22 2 = r.vRef) ∧
      (r.limitCode ≤ 255 → fieldAt p 24 1 = r.limitCode) ∧ (r.start < 4294967296 → fieldAt p 25 4 = r.start)) ∧
  (∀ (index : Nat) (s : State), (index < 8 ∧ s.wpu.ledger.length ≤ index ∨ index = 255 ∧ s.wpu.fillRec = none) →
    exec (.getFills index) s = .next (s.onlyAnswered 0x45 (.refused .notFound))) ∧
  (∀ (index : Nat) (s : State), 8 ≤ index → index ≠ 255 →
    exec (.getFills index) s = .next (s.onlyAnswered 0x45 (.refused .field))) ∧
  (∀ s : State,
    fieldAt s.statusBytes 1 1 = (match s.wsc.wash with
      | .idle => 0
      | .running => 1
      | .held => 2) ∧
    (s.wsc.active = none → fieldAt s.statusBytes 2 1 = 0 ∧ fieldAt s.statusBytes 3 1 = 0) ∧
    (∀ a, s.wsc.active = some a → a.record.id ≤ 255 → fieldAt s.statusBytes 2 1 = a.record.id) ∧
    (∀ a, s.wsc.active = some a → fieldAt s.statusBytes 3 1 = (match a.stage with
      | .fill => 1
      | .heat => 2
      | .hold => 3
      | .sense => 4
      | .drain => 5
      | .drying => 6
      | .done => 7)) ∧
    (fieldAt s.statusBytes 4 1).testBit 0 = s.wpu.waterPresent ∧
    (fieldAt s.statusBytes 4 1).testBit 1 = s.wpu.overfillClosed ∧ (fieldAt s.statusBytes 4 1).testBit 2 = s.wpu.leakWet ∧
    (fieldAt s.statusBytes 4 1).testBit 3 = s.wsc.abortDrain ∧ (fieldAt s.statusBytes 4 1).testBit 4 = s.wpu.valveOpen ∧
    (fieldAt s.statusBytes 4 1).testBit 5 = s.wpu.drainPump ∧ (fieldAt s.statusBytes 4 1).testBit 6 = s.wpu.inhibit ∧
    fieldAt s.statusBytes 5 1 % 4 = (match s.wpu.grant with
      | none => 0
      | some .fill => 1
      | some .regen => 2
      | some .test => 3) ∧
    (fieldAt s.statusBytes 5 1).testBit 4 = s.wpu.waitFill.isSome ∧
    (fieldAt s.statusBytes 5 1).testBit 5 = s.wpu.waitRegen.isSome ∧
    (fieldAt s.statusBytes 5 1).testBit 6 = s.wpu.waitTest.isSome ∧
    fieldAt s.statusBytes 6 6 = s.wpu.total.toNat ∧ fieldAt s.statusBytes 12 6 = s.wpu.fillTotal.toNat ∧
    fieldAt s.statusBytes 18 6 = s.wpu.regenTotal.toNat ∧ fieldAt s.statusBytes 24 6 = s.wpu.serviceCount.toNat ∧
    fieldAt s.statusBytes 30 6 = s.wpu.unattributed.toNat ∧ fieldAt s.statusBytes 36 2 = min 65535 s.wpu.window ∧
    (-32768 ≤ s.hcu.temp → s.hcu.temp ≤ 32767 → signedAt s.statusBytes 38 = s.hcu.temp) ∧
    (fieldAt s.statusBytes 40 1).testBit 0 = decide (s.hcu.temp < 0 ∨ 990 < s.hcu.temp) ∧
    (fieldAt s.statusBytes 40 1).testBit 3 = s.hcu.energised ∧
    (s.hcu.heat = none → fieldAt s.statusBytes 40 1 / 2 % 4 = 0 ∧ fieldAt s.statusBytes 41 2 = 0) ∧
    (∀ q, s.hcu.heat = some q → fieldAt s.statusBytes 40 1 / 2 % 4 = (match q.mode with
      | .heat => 1
      | .maintain => 2
      | .test => 3)) ∧
    (∀ q, s.hcu.heat = some q → 0 ≤ q.target → q.target ≤ 65535 → (fieldAt s.statusBytes 41 2 : Int) = q.target) ∧
    (s.hcu.level ≤ 255 → fieldAt s.statusBytes 43 1 = s.hcu.level) ∧
    (∀ n, n = s.hcu.demand.getD 0 → n ≤ 3 →
      fieldAt s.statusBytes 44 1 % 4 = n ∧ (fieldAt s.statusBytes 44 1).testBit 2 = s.hcu.pumpRuns) ∧
    fieldAt s.statusBytes 45 1 % 4 = (match s.hcu.cam with
      | .between => 0
      | .at .lower => 1
      | .at .upper => 2
      | .at .top => 3) ∧
    (fieldAt s.statusBytes 45 1).testBit 2 = s.hcu.move.isSome ∧ (s.hcu.zone = none → fieldAt s.statusBytes 45 1 / 8 % 4 = 0) ∧
    (fieldAt s.statusBytes 45 1).testBit 5 = s.hcu.fixed ∧ (fieldAt s.statusBytes 45 1).testBit 6 = s.hcu.checking ∧
    (s.hcu.mask ≤ 255 → fieldAt s.statusBytes 46 1 = s.hcu.mask) ∧
    (s.hcu.lowerArm.average ≤ 65535 → fieldAt s.statusBytes 47 2 = s.hcu.lowerArm.average) ∧
    (s.hcu.upperArm.average ≤ 65535 → fieldAt s.statusBytes 49 2 = s.hcu.upperArm.average) ∧
    (s.hcu.lastMean ≤ 65535 → fieldAt s.statusBytes 51 2 = s.hcu.lastMean) ∧
    (∀ n, n = s.hcu.lastClass.getD 255 → n ≤ 255 → fieldAt s.statusBytes 53 1 = n) ∧
    (s.hcu.circMs / 1000 ≤ 65535 → fieldAt s.statusBytes 54 2 = s.hcu.circMs / 1000) ∧
    (s.hcu.heatMs / 1000 ≤ 65535 → fieldAt s.statusBytes 56 2 = s.hcu.heatMs / 1000) ∧
    (-32768 ≤ s.dyc.cabTemp → s.dyc.cabTemp ≤ 32767 → signedAt s.statusBytes 58 = s.dyc.cabTemp) ∧
    (0 ≤ s.dyc.cabHum → s.dyc.cabHum ≤ 255 → (fieldAt s.statusBytes 60 1 : Int) = s.dyc.cabHum) ∧
    (fieldAt s.statusBytes 61 1).testBit 3 = s.dyc.run.isSome ∧
    (∀ r, s.dyc.run = some r →
      (r.stateMs / 1000 ≤ 65535 → fieldAt s.statusBytes 64 2 = r.stateMs / 1000) ∧
      (r.dryTime ≤ 65535 → fieldAt s.statusBytes 66 2 = r.dryTime) ∧
      (r.dryMs / 1000 ≤ 65535 → fieldAt s.statusBytes 68 2 = r.dryMs / 1000)))

/-! ## Settings -/

/-- O12. SET-WATER, SET-DRY and SET-SUPPLY (R20, R173, R73, R74, R63): the figures are clamped to their ranges and answered as they
now stand; a fan field above 1, or an entry number above 3, is refused FIELD. SET-SUPPLY takes the capacity, the estimate or KEEP,
the low mark and the stroke volume by R73's steps, answers with the entry, SALT's without a stroke volume, and sets SUPPLY attention
where the derived state changed, and only there. Nothing else changes. -/
def Obligations.WaterDryAndSupplyAreConfigured : Prop :=
  (∀ (k hRaw hT vRef limit : Nat) (s : State), ∃ w : WaterSettings,
    exec (.setWater k hRaw hT vRef limit) s =
      .next { s.onlyAnswered 0x10 (.ok (.water w)) with wpu := { s.wpu with settings := w } } ∧
    clampedTo 200 1200 k w.k ∧ clampedTo 0 700 hRaw w.hRaw ∧ clampedTo 0 150 hT w.hT ∧ clampedTo 2000 8000 vRef w.vRef ∧
    clampedTo 0 3 limit w.limitCode) ∧
  (∀ (delay temp time humidity fan : Nat) (s : State), fan ≤ 1 → ∃ w : DrySettings,
    exec (.setDry delay temp time humidity fan) s =
      .next { s.onlyAnswered 0x17 (.ok (.dry w)) with dyc := { s.dyc with settings := w } } ∧
    clampedTo 0 900 delay w.openDelay ∧ clampedTo 300 700 temp w.openTemp ∧ clampedTo 300 5400 time w.dryTime ∧
    clampedTo 20 90 humidity w.humidity ∧ (w.fan = true ↔ fan = 1)) ∧
  (∀ (delay temp time humidity fan : Nat) (s : State), 1 < fan →
    exec (.setDry delay temp time humidity fan) s = .next (s.onlyAnswered 0x17 (.refused .field))) ∧
  (∀ (e : Entry) (capacity estimate lowMark stroke : Nat) (s : State), ∃ (r : SupplyEntry) (t : State),
    exec (.setSupply e.code.toNat capacity estimate lowMark stroke) s = .next t ∧
    t.lkp.sending = some ⟨0x13, .ok (.supply (t.supplyShown e))⟩ ∧ t.entry e = r ∧ (∀ x, x ≠ e → t.entry x = s.entry x) ∧
    clampedTo 200 (if e = .salt then 3000 else 10000) capacity r.capacity ∧
    (estimate ≠ 65535 → r.tracked = true ∧ clampedTo 0 r.capacity estimate r.estimate) ∧
    (estimate = 65535 → r.tracked = (s.entry e).tracked ∧ clampedTo 0 r.capacity (s.entry e).estimate r.estimate) ∧
    clampedTo 0 r.capacity lowMark r.lowMark ∧
    (e ≠ .salt → clampedTo 1 20 stroke r.stroke) ∧ (e = .salt → r.stroke = (s.entry e).stroke) ∧
    r.capOpen = (s.entry e).capOpen ∧ r.low = (s.entry e).low ∧ r.refills = (s.entry e).refills ∧
    (r.state ≠ (s.entry e).state → t.told .supply (.supply e r.state)) ∧
    (r.state = (s.entry e).state → t.lkp.sources = s.lkp.sources) ∧ s.sourcesKeptBut t .supply ∧
    { t with lkp := s.lkp, spt := s.spt } = s) ∧
  (∀ (n capacity estimate lowMark stroke : Nat) (s : State), 3 < n →
    exec (.setSupply n capacity estimate lowMark stroke) s = .next (s.onlyAnswered 0x13 (.refused .field)))

/-- O13. SET-COLUMN (R36 to R41, R34, R47): the two refusals; the new nominal and remaining; a hold that makes the column HELD or,
for the service route of a granted fill, pending; a release of a HELD column by its remaining, at 0 to EXHAUSTED, listed under
automatic regeneration; and a plain hold off, which lets the state follow the figure. A remaining of 0 exhausts a column in use:
under automatic regeneration it enters the list at the end, and with the list empty its run starts; as the service route of a
granted fill it gives way to the other column at once, and with a hold it becomes HELD and is not listed. -/
def Obligations.ColumnIsConfigured : Prop :=
  (∀ (n nominal remaining hold : Nat) (s : State), 1 < n ∨ 1 < hold →
    exec (.setColumn n nominal remaining hold) s = .next (s.onlyAnswered 0x11 (.refused .field))) ∧
  (∀ (c : Column) (nominal remaining hold : Nat) (s : State), hold ≤ 1 → (s.col c).state = .regenerating →
    exec (.setColumn c.code.toNat nominal remaining hold) s = .next (s.onlyAnswered 0x11 (.refused .state))) ∧
  (∀ (c : Column) (nominal remaining hold : Nat) (s : State), hold ≤ 1 → (s.col c).state ≠ .regenerating →
    ∃ t r, exec (.setColumn c.code.toNat nominal remaining hold) s = .next t ∧ t.col c = r ∧
      t.lkp.sending = some ⟨0x11, .ok (.column c r)⟩ ∧
      (nominal = 4294967295 → r.nominal = (s.col c).nominal) ∧
      (nominal ≠ 4294967295 → clampedTo 2000000 40000000 nominal r.nominal) ∧ r.residue = (s.col c).residue ∧
      r.regenCount = (s.col c).regenCount ∧ t.wpu.meters = s.wpu.meters ∧ t.sfu.settings = s.sfu.settings ∧
      (∀ v, v = min (if remaining = 4294967295 then (s.col c).remaining else remaining) r.nominal →
        (hold = 1 → s.grantedRoute ≠ some c → r.state = .held ∧ r.holdReason = some .host ∧ r.remaining = v ∧
          t.listed c = false) ∧
        (hold = 1 → s.grantedRoute = some c → (s.col c).state = .inService → 0 < v →
          r.state = .inService ∧ r.holdPending = true ∧ r.remaining = v ∧ { t with lkp := s.lkp, sfu := s.sfu } = s) ∧
        (hold = 0 → 0 < v →
          r.state = (if (s.col c).state = .inService then .inService else .fresh) ∧ r.remaining = v ∧
          ((s.col c).state = .held → r.holdReason = none ∧ r.btRun = 0) ∧ { t with lkp := s.lkp, sfu := s.sfu } = s) ∧
        (hold = 0 → v = 0 → (s.col c).state = .fresh ∨ (s.col c).state = .inService → s.grantedRoute ≠ some c →
          s.sfu.settings.automatic = false → r.state = .exhausted ∧ r.remaining = 0))) ∧
  (∀ (c : Column) (nominal remaining hold : Nat) (f : FillRecord) (b : Blend) (s : State), hold ≤ 1 →
    (s.col c).state = .inService → s.wpu.grant = some .fill → s.wpu.fillRec = some f → f.pulses < f.targetPulses →
    s.sfu.blend = some b → b.service = some c → b.nb < 32 → s.wpu.inhibit = false → (s.col c.other).state = .fresh →
    s.listed c.other = false → remaining = 0 →
    ∃ t, exec (.setColumn c.code.toNat nominal remaining hold) s = .next t ∧
      t.lkp.sending = some ⟨0x11, .ok (.column c (t.col c))⟩ ∧ (t.col c).remaining = 0 ∧ (t.col c).holdPending = false ∧
      t.col c.other = { s.col c.other with state := .inService } ∧ t.sfu.pref = c ∧
      t.sfu.blend = some { b with service := some c.other, bypassAll := false } ∧ t.cdu = s.cdu ∧ t.wsc = s.wsc ∧
      (hold = 1 → (t.col c).state = .held ∧ (t.col c).holdReason = some .host ∧ t.sfu.list = s.sfu.list ∧ t.sfu.run = s.sfu.run ∧
        t.wpu = s.wpu) ∧
      (hold = 0 → (t.col c).state = .exhausted ∧
        (s.sfu.settings.automatic = false → t.sfu.list = s.sfu.list ∧ t.sfu.run = s.sfu.run ∧ t.wpu = s.wpu) ∧
        (s.sfu.settings.automatic = true → s.listed c = false →
          t.sfu.list.map RegenEntry.column = s.sfu.list.map RegenEntry.column ++ [c]) ∧
        (s.sfu.settings.automatic = true → s.sfu.list = [] → s.cdu.mode = .run →
          (∀ q, s.sfu.run = some q → q.outcome ≠ none) →
          ∃ q, t.sfu.run = some q ∧ q.column = c ∧ q.outcome = none ∧
            (s.sfu.settings.window = .anytime →
              q.stage = .waitInlet .brine ∧ t.wpu = { s.wpu with waitRegen := some .brine }) ∧
            (s.sfu.settings.window = .quiet → (∀ a, s.wsc.active = some a → a.record.kind ≠ .dry) →
              q.stage = .waitWindow ∧ t.wpu = s.wpu)))) ∧
  (∀ (c : Column) (nominal : Nat) (s : State), (s.col c).state = .fresh ∨ (s.col c).state = .inService →
    s.grantedRoute ≠ some c → s.sfu.settings.automatic = true → s.listed c = false →
    ∃ t, exec (.setColumn c.code.toNat nominal 0 0) s = .next t ∧ (t.col c).remaining = 0 ∧
      t.sfu.list.map RegenEntry.column = s.sfu.list.map RegenEntry.column ++ [c] ∧ t.wsc = s.wsc ∧
      (∀ q, s.sfu.run = some q → q.outcome = none → (t.col c).state = .exhausted ∧ t.sfu.run = some q ∧ t.wpu = s.wpu) ∧
      (s.sfu.list = [] → s.cdu.mode ≠ .safe → s.wpu.inhibit = false → (∀ q, s.sfu.run = some q → q.outcome ≠ none) →
        ∃ q, t.sfu.run = some q ∧ q.column = c ∧ q.outcome = none ∧
          (s.sfu.settings.window = .quiet → s.windowOpen .quiet = false →
            q.stage = .waitWindow ∧ (t.col c).state = .exhausted ∧ t.wpu = s.wpu) ∧
          (s.sfu.settings.window = .anytime → s.wpu.grant = none →
            q.stage = .running .brine ∧ (t.col c).state = .regenerating ∧ t.wpu.grant = some .regen))) ∧
  (∀ (c : Column) (nominal remaining : Nat) (s : State), (s.col c).state = .held → s.grantedRoute ≠ some c →
    remaining = 0 ∨ remaining = 4294967295 ∧ (s.col c).remaining = 0 →
    ∃ t, exec (.setColumn c.code.toNat nominal remaining 0) s = .next t ∧ (t.col c).remaining = 0 ∧
      (t.col c).holdReason = none ∧
      t.lkp.sending = some ⟨0x11, .ok (.column c (t.col c))⟩ ∧
      (s.sfu.settings.automatic = false ∨ s.listed c = true → (t.col c).state = .exhausted ∧ t.sfu.list = s.sfu.list ∧
        t.sfu.run = s.sfu.run ∧ t.wpu = s.wpu ∧ t.col c.other = s.col c.other) ∧
      (s.sfu.settings.automatic = true → s.listed c = false →
        t.sfu.list.map RegenEntry.column = s.sfu.list.map RegenEntry.column ++ [c] ∧
        (s.sfu.list ≠ [] → ∀ q, s.sfu.run = some q → q.outcome = none →
          (t.col c).state = .exhausted ∧ t.sfu.run = some q ∧ t.wpu = s.wpu ∧ t.col c.other = s.col c.other) ∧
        (s.sfu.list = [] → s.cdu.mode ≠ .safe → s.wpu.inhibit = false → (∀ q, s.sfu.run = some q → q.outcome ≠ none) →
          ∃ q, t.sfu.run = some q ∧ q.column = c ∧ q.outcome = none ∧
            (s.sfu.settings.window = .quiet → s.windowOpen .quiet = false →
              q.stage = .waitWindow ∧ (t.col c).state = .exhausted ∧ t.wpu = s.wpu) ∧
            (s.sfu.settings.window = .anytime → s.wpu.grant = none →
              q.stage = .running .brine ∧ (t.col c).state = .regenerating ∧ t.wpu.grant = some .regen))))

/-- O14. LOAD-CURVE and LOAD-SOIL (R95, R96): a table is taken whole exactly where its figures are in their ranges and rising and no
dose record exists; otherwise FIELD or STATE, and nothing changes. -/
def Obligations.DoseTablesAreLoaded : Prop :=
  (∀ (ps : List (Nat × Nat)) (s : State),
    (ps.length = 6 ∧ (∀ p ∈ ps, p.1 ≤ 700 ∧ 64 ≤ p.2 ∧ p.2 ≤ 1024) ∧ ps.Pairwise (fun p q => p.1 < q.1) →
      (s.dsu.live = [] ∧ s.dsu.ended = [] → ∃ c : Curve, c.points.toList = ps ∧
        exec (.loadCurve ps) s = .next { s.onlyAnswered 0x14 (.ok (.curve c)) with dsu := { s.dsu with curve := c } }) ∧
      (s.dsu.live ≠ [] ∨ s.dsu.ended ≠ [] → exec (.loadCurve ps) s = .next (s.onlyAnswered 0x14 (.refused .state)))) ∧
    (¬(ps.length = 6 ∧ (∀ p ∈ ps, p.1 ≤ 700 ∧ 64 ≤ p.2 ∧ p.2 ≤ 1024) ∧ ps.Pairwise (fun p q => p.1 < q.1)) →
      exec (.loadCurve ps) s = .next (s.onlyAnswered 0x14 (.refused .field)))) ∧
  (∀ (t1 t2 t3 f0 f1 f2 f3 : Nat) (s : State),
    (t1 < t2 ∧ t2 < t3 ∧ t3 ≤ 1023 ∧ (∀ f ∈ [f0, f1, f2, f3], 128 ≤ f ∧ f ≤ 1024) →
      (s.dsu.live = [] ∧ s.dsu.ended = [] →
        exec (.loadSoil [t1, t2, t3] [f0, f1, f2, f3]) s =
          .next { s.onlyAnswered 0x15 (.ok (.soil ⟨t1, t2, t3, f0, f1, f2, f3⟩)) with
            dsu := { s.dsu with soil := ⟨t1, t2, t3, f0, f1, f2, f3⟩ } }) ∧
      (s.dsu.live ≠ [] ∨ s.dsu.ended ≠ [] →
        exec (.loadSoil [t1, t2, t3] [f0, f1, f2, f3]) s = .next (s.onlyAnswered 0x15 (.refused .state)))) ∧
    (¬(t1 < t2 ∧ t2 < t3 ∧ t3 ≤ 1023 ∧ (∀ f ∈ [f0, f1, f2, f3], 128 ≤ f ∧ f ≤ 1024)) →
      exec (.loadSoil [t1, t2, t3] [f0, f1, f2, f3]) s = .next (s.onlyAnswered 0x15 (.refused .field)))) ∧
  (∀ (ts fs : List Nat) (s : State), ts.length ≠ 3 ∨ fs.length ≠ 4 →
    exec (.loadSoil ts fs) s = .next (s.onlyAnswered 0x15 (.refused .field)))

/-- O15. SET-POLICY and CLEAR-CONDITIONS (R179, R180): the trap enables become exactly the named TRAPPABLE conditions; the named
causes and flags leave their sets, and no other does. Both are answered with the sets as they now stand. -/
def Obligations.PolicyAndClearingAreBySet : Prop :=
  (∀ (w : CondSet) (s : State), ∃ traps,
    exec (.setPolicy w) s =
      .next { s.onlyAnswered 0x16 (.ok (.conditionSet traps)) with cdu := { s.cdu with traps := traps } } ∧
    ∀ c : Condition, hasCondition traps c ↔ hasCondition w c ∧ c.cls = .trappable) ∧
  (∀ (causes flags : CondSet) (s : State), ∃ c f,
    exec (.clearConditions causes flags) s =
      .next { s.onlyAnswered 0x27 (.ok (.conditionSets c f)) with cdu := { s.cdu with causes := c, flags := f } } ∧
    (∀ x : Condition, hasCondition c x ↔ hasCondition s.cdu.causes x ∧ ¬hasCondition causes x) ∧
    (∀ x : Condition, hasCondition f x ↔ hasCondition s.cdu.flags x ∧ ¬hasCondition flags x))

/-! ## The program -/

/-- O16. QUEUE-PHASE and CANCEL-PHASE (R101, R102, R103, R201): QUEUE-PHASE answers FIELD, STATE, FULL and DUPLICATE in this order,
else appends the record with every field and answers with the number queued. A record's 23 bytes read back as a request give the
record again. CANCEL-PHASE answers FIELD for an id outside 1 to 255, STATE for the active phase's id, NOT_FOUND for no queued
record's; else that record leaves the queue, the others keep their order, and the number left is answered. -/
def Obligations.PhasesAreQueuedAndCancelled : Prop :=
  (∀ (r : RawPhase) (s : State),
    (¬r.allowed → exec (.queuePhase r) s = .next (s.onlyAnswered 0x20 (.refused .field))) ∧
    (r.allowed →
      (s.cdu.mode ≠ .standby ∧ s.cdu.mode ≠ .run →
        exec (.queuePhase r) s = .next (s.onlyAnswered 0x20 (.refused .state))) ∧
      (s.cdu.mode = .standby ∨ s.cdu.mode = .run →
        (12 ≤ s.wsc.queue.length → exec (.queuePhase r) s = .next (s.onlyAnswered 0x20 (.refused .full))) ∧
        (s.wsc.queue.length < 12 →
          (s.usesId r.id → exec (.queuePhase r) s = .next (s.onlyAnswered 0x20 (.refused .duplicate))) ∧
          (¬s.usesId r.id → ∃ p : PhaseRecord,
            exec (.queuePhase r) s = .next { s.onlyAnswered 0x20 (.ok (.queued (s.wsc.queue.length + 1))) with
              wsc := { s.wsc with queue := s.wsc.queue ++ [p] } } ∧
            p.id = r.id ∧ p.kind.code.toNat = r.kind ∧ p.fill = r.fill ∧ p.temp = r.temp ∧ p.hold = r.hold ∧ p.mask = r.mask ∧
            p.period = r.period ∧ p.speed = r.speed ∧
            p.heatLimit = (if r.presence.testBit 0 then some r.heatLimit else none) ∧
            p.detergent = (if r.presence.testBit 1 then some r.detergent else none) ∧
            p.additive = (if r.presence.testBit 2 then some r.additive else none) ∧
            p.rinse = (if r.presence.testBit 3 then some r.rinse else none) ∧
            p.dryOverride = (if r.presence.testBit 4 then some r.dryOverride else none) ∧
            p.soilSense = r.flags.testBit 0 ∧ p.drainAtEnd = r.flags.testBit 1 ∧ p.softRequired = r.flags.testBit 2 ∧
            p.openDoor = r.flags.testBit 3))))) ∧
  (∀ (r : RawPhase) (p : PhaseRecord), r.check = some p →
    p.bytes.length = 23 ∧ ∃ q, decodeRequest 0x20 p.bytes = .request (.queuePhase q) ∧ q.check = some p) ∧
  (∀ (id : Nat) (s : State), id = 0 ∨ 255 < id → exec (.cancelPhase id) s = .next (s.onlyAnswered 0x21 (.refused .field))) ∧
  (∀ (a : ActivePhase) (s : State), 1 ≤ a.record.id → a.record.id ≤ 255 → s.wsc.active = some a →
    exec (.cancelPhase a.record.id) s = .next (s.onlyAnswered 0x21 (.refused .state))) ∧
  (∀ (id : Nat) (s : State), 1 ≤ id → id ≤ 255 → (∀ a, s.wsc.active = some a → a.record.id ≠ id) →
    (∀ q ∈ s.wsc.queue, q.id ≠ id) → exec (.cancelPhase id) s = .next (s.onlyAnswered 0x21 (.refused .notFound))) ∧
  (∀ (front back : List PhaseRecord) (p : PhaseRecord) (s : State), 1 ≤ p.id → p.id ≤ 255 →
    (∀ a, s.wsc.active = some a → a.record.id ≠ p.id) → s.wsc.queue = front ++ p :: back →
    (∀ q ∈ front ++ back, q.id ≠ p.id) →
    exec (.cancelPhase p.id) s = .next { s.onlyAnswered 0x21 (.ok (.queued (front.length + back.length))) with
      wsc := { s.wsc with queue := front ++ back } })

/-- O17. START (R105, R106, R109, R116, R117, R161): where its six conditions hold the mode becomes RUN, the program context is
cleared, the head becomes the active phase with its figures set up, and MODE attention is set. A water phase begins in FILL; with
the inlet free and no selection to make, the fill is granted and its record opens with its target rounded up. A DRAIN phase asks for
its drain; a DRY phase starts its drying run and sets the drying hold. Otherwise STATE, and nothing changes. -/
def Obligations.StartBeginsTheProgram : Prop :=
  (∀ (r : PhaseRecord) (rest : List PhaseRecord) (s : State), s.cdu.mode = .standby → s.wsc.abortDrain = false →
    s.wsc.queue = r :: rest → s.doorClass = .closed → s.dru.latched = true → s.dru.opener = .retracted →
    (∀ c, s.activeTest c = false) → r.kind.isWater = true →
    ∃ t, exec .start s = .next t ∧ t.lkp.sending = some ⟨0x22, .ok .empty⟩ ∧ t.cdu.mode = .run ∧ t.told .mode (.mode .run) ∧
      t.lkp.supervision = some 0 ∧ t.wsc.queue = rest ∧ t.wsc.ctx = some ⟨none, false, 0⟩ ∧
      t.wsc.active = some ⟨r, .fill, r.hold, 0, r.temp, false, false, false, false, false⟩ ∧ t.hcu.mask = r.mask ∧
      t.hcu.period = r.period ∧ t.hcu.heatLimit = r.heatLimit.getD 1800 ∧
      t.wpu.meters = s.wpu.meters ∧ t.wpu.ledger = s.wpu.ledger ∧ t.wpu.settings = s.wpu.settings ∧ t.dru = s.dru ∧
      (s.sfu.run = none → s.wpu.grant = none → s.wpu.inhibit = false → s.wpu.fillRec = none →
        s.wpu.settings.hRaw ≤ s.wpu.settings.hT →
        t.wsc.wash = .running ∧ t.wsc.cause = none ∧ t.cdu.causes = 0 ∧ t.wpu.grant = some .fill ∧ t.wpu.valveOpen = true ∧
        t.sfu.blendValve = true ∧ t.sfu.selector = none ∧
        ∃ f, t.wpu.fillRec = some f ∧ f.phaseId = r.id ∧ f.target = r.fill ∧ f.pulses = 0 ∧ f.closed = none ∧
          f.k = s.wpu.settings.k ∧ (0 < s.wpu.settings.k →
            r.fill * f.k ≤ f.targetPulses * 1000 ∧ f.targetPulses * 1000 < r.fill * f.k + 1000))) ∧
  (∀ (r : PhaseRecord) (rest : List PhaseRecord) (s : State), s.cdu.mode = .standby → s.wsc.abortDrain = false →
    s.wsc.queue = r :: rest → s.doorClass = .closed → s.dru.latched = true → s.dru.opener = .retracted →
    (∀ c, s.activeTest c = false) → s.sfu.run = none →
    (r.kind = .drain →
      ∃ t, exec .start s = .next t ∧ t.lkp.sending = some ⟨0x22, .ok .empty⟩ ∧ t.cdu.mode = .run ∧ t.told .mode (.mode .run) ∧
        t.phaseBegun r rest .drain ∧ t.wsc.ctx = some ⟨none, false, 0⟩ ∧ t.wsc.cause = none ∧
        t.wpu = { s.wpu with drain := some ⟨0, 0⟩, drainPump := true } ∧ t.sfu = s.sfu ∧ t.spt = s.spt ∧ t.dsu = s.dsu ∧
        t.dru = s.dru ∧ t.dyc = s.dyc) ∧
    (r.kind = .dry →
      ∃ t q, exec .start s = .next t ∧ t.lkp.sending = some ⟨0x22, .ok .empty⟩ ∧ t.cdu.mode = .run ∧ t.told .mode (.mode .run) ∧
        t.phaseBegun r rest .drying ∧ t.wsc.ctx = some ⟨none, false, 0⟩ ∧ t.wsc.cause = none ∧ t.dyc.run = some q ∧
        r.dryingIn false s.dyc.settings q ∧ t.dyc.settings = s.dyc.settings ∧ t.dru = { s.dru with dryHold := true } ∧
        t.wpu = s.wpu ∧ t.sfu = s.sfu ∧ t.spt = s.spt ∧ t.dsu = s.dsu)) ∧
  (∀ s : State, s.cdu.mode ≠ .standby ∨ s.wsc.abortDrain = true ∨ s.wsc.queue = [] ∨ s.doorClass ≠ .closed ∨
      s.dru.latched = false ∨ s.dru.opener ≠ .retracted ∨ (∃ c, s.activeTest c = true) →
    exec .start s = .next (s.onlyAnswered 0x22 (.refused .state)))

/-- O18. PAUSE (R119, R118): in RUN with the wash RUNNING it holds the wash with cause HOST_PAUSE and stops what its stage runs; no
cause, flag or count changes and no CONDITION attention is set. (Where a FILL gives its grant up and a regeneration stage waits,
that stage starts and may raise SALT_EMPTY by its own rule: no other condition is recorded then.) A HELD wash stays as it is; in any
other mode PAUSE is refused STATE. -/
def Obligations.PauseHoldsTheWash : Prop :=
  (∀ (a : ActivePhase) (s : State), s.cdu.mode = .run → s.wsc.wash = .running → s.wsc.active = some a →
    ∃ t, exec .pause s = .next t ∧ t.lkp.sending = some ⟨0x23, .ok .empty⟩ ∧ t.wsc.wash = .held ∧
      t.wsc.cause = some .hostPause ∧ t.wsc.active = some a ∧ t.wsc.queue = s.wsc.queue ∧ t.wsc.ctx = s.wsc.ctx ∧
      t.cdu.mode = .run ∧ t.wpu.fillRec = s.wpu.fillRec ∧ t.wpu.meters = s.wpu.meters ∧
      t.dsu.live = s.dsu.live.map (fun r => { r with state := .suspended }) ∧ t.dsu.ended = s.dsu.ended ∧
      (a.stage.isWet = true → t.hcu.heat = none ∧ t.hcu.level = 0 ∧ t.hcu.demand = none ∧ t.hcu.pumpRuns = false ∧
        t.hcu.move = none) ∧
      (a.stage = .fill → t.wpu.grant ≠ some .fill ∧ t.wpu.waitFill = none) ∧
      (a.stage = .heat ∨ a.stage = .hold ∨ a.stage = .sense →
        t.wpu = s.wpu ∧ t.sfu = s.sfu ∧ t.spt = s.spt ∧ t.hcu.classify = none) ∧
      (a.stage = .drain → t.wpu.drain = none ∧ t.wpu.drainPump = false) ∧
      (a.stage ≠ .fill → t.cdu = s.cdu ∧ t.lkp.sources = s.lkp.sources) ∧
      (a.stage = .fill → s.wpu.grant ≠ some .fill ∨ s.wpu.waitRegen = none → t.cdu.causes = s.cdu.causes ∧
        t.cdu.flags = s.cdu.flags ∧ t.cdu.counts = s.cdu.counts ∧
        t.lkp.sources[Source.condition.idx] = s.lkp.sources[Source.condition.idx]) ∧
      (a.stage = .fill → s.wpu.grant = some .fill → s.wpu.waitRegen ≠ none → State.recorded s t .saltEmpty ∨
        t.cdu.causes = s.cdu.causes ∧ t.cdu.flags = s.cdu.flags ∧ t.cdu.counts = s.cdu.counts ∧
          t.lkp.sources[Source.condition.idx] = s.lkp.sources[Source.condition.idx]) ∧
      (a.stage = .drying → ∀ r, s.dyc.run = some r → r.state ≠ .ended → r.suspended = false →
        ∃ r', t.dyc.run = some r' ∧ r'.suspended = true ∧ r'.fanDemand = false ∧ r'.dryMs = r.dryMs ∧ r'.state = r.state)) ∧
  (∀ s : State, s.cdu.mode = .run → s.wsc.wash = .held → exec .pause s = .next (s.onlyAnswered 0x23 (.ok .empty))) ∧
  (∀ s : State, s.cdu.mode ≠ .run → exec .pause s = .next (s.onlyAnswered 0x23 (.refused .state)))

/-- O19. RESUME (R121, R122, R93, R11, R31, R112, R172): accepted, the wash is RUNNING without a cause, the misses are cleared, the
front dose is taken up and the held stage restarts. FILL claims the inlet again: at the grant the open record goes on with its
seconds, or a new one opens; HEAT heats again toward the effective target; HOLD goes on with MAINTAIN, or through HEAT where the
water is more than 5.0 °C below; SENSE asks for the class afresh and keeps its circulation time; DRAIN drains again with both counts
at 0; the drying run is taken out of suspension. Refused, it changes nothing. The doses of the premise neither wait for a
recomputation nor plan no strokes. -/
def Obligations.ResumeRestartsTheStage : Prop :=
  (∀ (a : ActivePhase) (s : State), s.wsc.wash = .held → s.cdu.mode = .run → s.wsc.active = some a →
    (a.record.kind = .dry ∨ s.doorClass = .closed ∧ s.dru.latched = true) →
    (∀ c : Condition, hasCondition s.cdu.causes c → c.cls ≠ .holdAlways ∧ ¬(c.cls = .trappable ∧ hasCondition s.cdu.traps c) ∧
      ¬(c = .hardFill ∧ a.record.softRequired = true)) →
    (∀ r ∈ s.dsu.live, r.recompute = false ∧ 0 < r.planned) →
    (a.stage = .drain →
      ∃ t, exec .resume s = .next t ∧ t.lkp.sending = some ⟨0x24, .ok .empty⟩ ∧
        t.wsc = { s.wsc with wash := .running, cause := none } ∧
        t.wpu = { s.wpu with drain := some ⟨0, 0⟩, drainPump := true } ∧ t.hcu = s.hcu ∧ t.cdu = s.cdu ∧ t.spt = s.spt ∧
        (∀ d rest, s.dsu.live = d :: rest →
          t.dsu.live = { d with misses := 0, state := .stroking } :: rest.map fun x => { x with misses := 0, state := .waiting })) ∧
    (a.stage = .heat → 1 ≤ a.record.speed →
      ∃ t, exec .resume s = .next t ∧ t.lkp.sending = some ⟨0x24, .ok .empty⟩ ∧
        t.wsc = { s.wsc with wash := .running, cause := none } ∧
        t.hcu.heat = some ⟨.heat, a.target, false, none⟩ ∧ t.hcu.demand = some a.record.speed ∧ t.hcu.heatMs = s.hcu.heatMs ∧
        (s.dru.opener = .retracted → t.hcu.pumpRuns = true ∧ t.pumpSpeed = a.record.speed) ∧ t.wpu = s.wpu ∧ t.cdu = s.cdu ∧
        t.spt = s.spt) ∧
    (∀ r b, a.stage = .fill → s.wpu.fillRec = some r → s.sfu.blend = some b → b.nb = 32 → s.wpu.grant = none →
      s.wpu.inhibit = false →
      ∃ t, exec .resume s = .next t ∧ t.lkp.sending = some ⟨0x24, .ok .empty⟩ ∧
        t.wsc = { s.wsc with wash := .running, cause := none } ∧
        t.wpu = { s.wpu with grant := some .fill, valveOpen := true, waitFill := none, window := 0 } ∧
        t.sfu = { s.sfu with
          blend := some { b with service := none, hardFill := false }, blendValve := true, selector := none } ∧
        t.cdu = s.cdu ∧ t.hcu = s.hcu ∧ t.spt = s.spt) ∧
    (a.stage = .fill → s.wpu.fillRec = none → s.wpu.grant = none → s.wpu.inhibit = false → s.doorClass = .closed →
      s.dru.latched = true → s.wpu.settings.hRaw ≤ s.wpu.settings.hT →
      ∃ t f, exec .resume s = .next t ∧ t.wsc = { s.wsc with wash := .running, cause := none } ∧ t.wpu.grant = some .fill ∧
        t.wpu.valveOpen = true ∧ t.wpu.fillRec = some f ∧ f.phaseId = a.record.id ∧ f.target = a.record.fill ∧ f.pulses = 0 ∧
        f.k = s.wpu.settings.k ∧ f.limitCode = s.wpu.settings.limitCode ∧ f.closed = none ∧ t.wpu.fillMs = 0 ∧
        t.cdu = s.cdu ∧ t.hcu = s.hcu ∧ t.spt = s.spt) ∧
    (a.stage = .hold → 1 ≤ a.record.speed → s.dru.opener = .retracted →
      (0 < a.holdSec ∧ a.holdEnded = false ∨ a.holdEnded = true ∧ s.dsu.live ≠ []) →
      ∃ t, exec .resume s = .next t ∧ t.lkp.sending = some ⟨0x24, .ok .empty⟩ ∧ t.hcu.demand = some a.record.speed ∧
        t.hcu.pumpRuns = true ∧ t.wpu = s.wpu ∧ t.cdu = s.cdu ∧ t.spt = s.spt ∧
        (0 < a.holdSec → 0 < a.target → s.hcu.temp < a.target - 50 →
          t.wsc = { s.wsc with wash := .running, cause := none, active := some { a with stage := .heat } } ∧
          t.hcu.heat = some ⟨.heat, a.target, false, none⟩) ∧
        (a.holdSec = 0 ∨ a.target ≤ 0 ∨ a.target - 50 ≤ s.hcu.temp →
          t.wsc = { s.wsc with wash := .running, cause := none } ∧
          t.hcu.heat = (if 0 < a.target then some ⟨.maintain, a.target, false, none⟩ else s.hcu.heat))) ∧
    (a.stage = .sense → 1 ≤ a.record.speed → a.classDone = false →
      ∃ t, exec .resume s = .next t ∧ t.lkp.sending = some ⟨0x24, .ok .empty⟩ ∧
        t.wsc = { s.wsc with wash := .running, cause := none } ∧
        t.hcu.classify = some [] ∧ t.hcu.circMs = s.hcu.circMs ∧ t.hcu.demand = some a.record.speed ∧
        (s.dru.opener = .retracted → t.hcu.pumpRuns = true) ∧
        t.hcu.heat = (if 0 < a.target then some ⟨.maintain, a.target, false, none⟩ else s.hcu.heat) ∧ t.wpu = s.wpu ∧
        t.cdu = s.cdu ∧ t.spt = s.spt) ∧
    (∀ q, a.stage = .drying → s.dyc.run = some q → q.pendingEnd = none → q.outstanding = none →
      (q.state = .cooling ∧ s.doorClass = .closed ∨ q.state = .closedDry ∧ s.doorClass ≠ .open ∨
        q.state = .ajar ∧ s.doorClass = .ajar ∧ s.dru.opener ≠ .extended ∨ q.state = .yielding ∧ s.doorClass = .ajar) →
      s.dru.opener ≠ .unknownPosition →
      ∃ t, exec .resume s = .next t ∧ t.lkp.sending = some ⟨0x24, .ok .empty⟩ ∧
        t.wsc = { s.wsc with wash := .running, cause := none } ∧
        t.dyc = { s.dyc with run := some { q with
          suspended := false, fanDemand := if q.state = .cooling then q.fanDemand else q.settings.fan } } ∧
        t.dru = s.dru ∧ t.wpu = s.wpu ∧ t.hcu = s.hcu ∧ t.cdu = s.cdu ∧ t.spt = s.spt)) ∧
  (∀ s : State, s.wsc.wash ≠ .held ∨ s.cdu.mode ≠ .run →
    exec .resume s = .next (s.onlyAnswered 0x24 (.refused .state))) ∧
  (∀ (a : ActivePhase) (s : State), s.wsc.active = some a → a.record.kind ≠ .dry →
    s.doorClass ≠ .closed ∨ s.dru.latched = false → exec .resume s = .next (s.onlyAnswered 0x24 (.refused .state))) ∧
  (∀ (c : Condition) (s : State), hasCondition s.cdu.causes c →
    c.cls = .holdAlways ∨ c.cls = .trappable ∧ hasCondition s.cdu.traps c →
    exec .resume s = .next (s.onlyAnswered 0x24 (.refused .state))) ∧
  (∀ (a : ActivePhase) (s : State), hasCondition s.cdu.causes .hardFill → s.wsc.active = some a → a.record.softRequired = true →
    exec .resume s = .next (s.onlyAnswered 0x24 (.refused .state)))

/-- O20. ABORT (R124, R125, R94, R14, R170): in RUN the program is given up: doses discarded, heater and pump off, the open fill
closed ABANDONED, the queue empty, the mode STANDBY, PROGRAM attention with the water total, and the abort drain where water is
present. In the DRYING stage the run, suspended or not, ends ABORTED without DRY attention: the fan demand is off, the drying hold
and a pending end are gone, an EXTENDED rod is drawn in, and of the commands only an EXTEND that moves is kept. In any other mode
STATE, and nothing changes. -/
def Obligations.AbortGivesTheProgramUp : Prop :=
  (∀ s : State, s.cdu.mode = .run →
    ∃ t, exec .abort s = .next t ∧ t.lkp.sending = some ⟨0x25, .ok .empty⟩ ∧ t.cdu.mode = .standby ∧
      t.told .mode (.mode .standby) ∧ t.lkp.supervision = none ∧ t.wsc.queue = [] ∧ t.wsc.active = none ∧ t.wsc.ctx = none ∧
      t.wsc.wash = .idle ∧ t.wsc.cause = none ∧ t.dsu.live = [] ∧ t.dsu.ended = [] ∧ t.dsu.drive = none ∧
      t.hcu.heat = none ∧ t.hcu.level = 0 ∧ t.hcu.demand = none ∧ t.hcu.pumpRuns = false ∧ t.hcu.move = none ∧
      t.wpu.fillRec = none ∧ t.wpu.grant ≠ some .fill ∧ t.wpu.waitFill = none ∧ t.wpu.meters = s.wpu.meters ∧
      (s.wpu.fillRec = none → t.wpu.ledger = s.wpu.ledger) ∧
      (∀ r, s.wpu.fillRec = some r → ∃ c, t.wpu.ledger = (c :: s.wpu.ledger).take 8 ∧ c.phaseId = r.phaseId ∧
        c.pulses = r.pulses ∧ c.closed = some ⟨r.pulses * 1000 / r.k, r.hardness, .abandoned⟩) ∧
      (∀ x, s.wsc.ctx = some x → s.wpu.fillRec = none → t.told .program (.program .aborted x.total)) ∧
      (∀ x r, s.wsc.ctx = some x → s.wpu.fillRec = some r → x.total + r.pulses * 1000 / r.k < 4294967296 →
        t.told .program (.program .aborted (x.total + r.pulses * 1000 / r.k))) ∧
      (s.wpu.waterPresent = true → t.wsc.abortDrain = true ∧ t.wpu.drain = some ⟨0, 0⟩ ∧ t.wpu.drainPump = true) ∧
      (s.wpu.waterPresent = false → t.wsc.abortDrain = s.wsc.abortDrain) ∧
      t.lkp.sources[Source.dry.idx] = s.lkp.sources[Source.dry.idx] ∧ t.dyc.settings = s.dyc.settings ∧
      (∀ r, s.dyc.run = some r → r.state = .ended → t.dyc.run = some r) ∧
      (∀ a, s.wsc.active = some a → a.stage ≠ .drying → t.dyc = s.dyc ∧ t.dru = s.dru) ∧
      (∀ a r, s.wsc.active = some a → a.stage = .drying → s.dyc.run = some r → r.state ≠ .ended →
        (∃ q, t.dyc.run = some q ∧ q.kind = r.kind ∧ q.state = .ended ∧ q.outcome = some .aborted ∧ q.fanDemand = false ∧
          q.pendingEnd = none ∧ q.suspended = false ∧ q.dryMs = r.dryMs ∧
          (r.outstanding = some ⟨.extend, true⟩ → q.outstanding = some ⟨.extend, true⟩) ∧
          (r.outstanding ≠ some ⟨.extend, true⟩ → q.outstanding = none)) ∧
        (s.dru.opener ≠ .extended → t.dru = { s.dru with dryHold := false }) ∧
        (s.dru.opener = .extended → s.dru.endRetracted = false →
          t.dru = { s.dru with
            opener := .retracting, commanded := .retract, issuer := .dry, phase := some .driving, moveMs := 0
            motor := some .retract, dryHold := false }) ∧
        (s.dru.opener = .extended → s.dru.endRetracted = true →
          t.dru.opener = .retracted ∧ t.dru.motor = none ∧ t.dru.phase = none ∧ t.dru.last = some ⟨.retract, .dry, .done⟩ ∧
          t.dru.dryHold = false))) ∧
  (∀ s : State, s.cdu.mode ≠ .run → exec .abort s = .next (s.onlyAnswered 0x25 (.refused .state)))

/-- O21. EDIT-CONTEXT (R123, R94): the refusals, NOT_FOUND among them for a dose of which the phase has no record; the hold seconds
of a held water phase; a dropped dose, which ends SHORT, while one that has ended already is answered OK and changes nothing; the
skip to DRAIN, which closes the fill and drops every dose. That a request to which both FIELD and STATE apply is refused FIELD is
the model's choice (log 40). -/
def Obligations.HeldContextIsEdited : Prop :=
  (∀ (op value : Nat) (s : State), 2 < op ∨ op = 0 ∧ 3600 < value ∨ op = 1 ∧ 2 < value ∨ op = 2 ∧ value ≠ 0 →
    exec (.editContext op value) s = .next (s.onlyAnswered 0x26 (.refused .field))) ∧
  (∀ (op value : Nat) (s : State), op = 0 ∧ value ≤ 3600 ∨ op = 1 ∧ value ≤ 2 ∨ op = 2 ∧ value = 0 →
    s.wsc.wash ≠ .held ∨ s.wsc.active = none ∨ (∃ a, s.wsc.active = some a ∧ a.record.kind.isWater = false) ∨
      op ≠ 2 ∧ (∃ a, s.wsc.active = some a ∧ a.stage = .drain) →
    exec (.editContext op value) s = .next (s.onlyAnswered 0x26 (.refused .state))) ∧
  (∀ (a : ActivePhase) (value : Nat) (s : State), s.wsc.wash = .held → s.wsc.active = some a → a.record.kind.isWater = true →
    a.stage ≠ .drain → value ≤ 3600 → ∃ d b,
      exec (.editContext 0 value) s =
        .next { s.onlyAnswered 0x26 (.ok (.held d)) with wsc := { s.wsc with active := some b } } ∧
      b.holdSec = value ∧ b.record = a.record ∧ b.stage = a.stage ∧ b.target = a.target ∧
      b.detergentAsked = a.detergentAsked ∧ b.rinseAsked = a.rinseAsked) ∧
  (∀ (a : ActivePhase) (g : Agent) (r : DoseRecord) (s : State), s.wsc.wash = .held → s.wsc.active = some a →
    a.record.kind.isWater = true → a.stage ≠ .drain → s.dsu.live = [r] → r.agent = g → r.phaseId = a.record.id →
    ∃ t d e, exec (.editContext 1 g.code.toNat) s = .next t ∧ t.lkp.sending = some ⟨0x26, .ok (.held d)⟩ ∧ t.dsu.live = [] ∧
      t.dsu.ended = s.dsu.ended ++ [e] ∧ e.agent = g ∧ e.state = .short ∧ e.done = r.done ∧ e.planned = r.done ∧
      t.told .dose (.dose g .short) ∧ t.wsc.active = s.wsc.active ∧ t.wpu = s.wpu ∧ t.spt = s.spt ∧ t.cdu = s.cdu) ∧
  (∀ (a : ActivePhase) (s : State), s.wsc.wash = .held → s.wsc.active = some a → a.record.kind.isWater = true →
    a.stage ≠ .drain →
    ∃ t d, exec (.editContext 2 0) s = .next t ∧ t.lkp.sending = some ⟨0x26, .ok (.held d)⟩ ∧
      t.wsc.active = some { a with stage := .drain, filled := a.filled || s.wpu.fillRec.isSome } ∧ t.wpu.fillRec = none ∧
        t.wpu.waitFill = none ∧
      t.wpu.grant ≠ some .fill ∧ t.dsu.live = [] ∧ t.wsc.wash = .held ∧ t.wpu.meters = s.wpu.meters ∧
      (∀ r, s.wpu.fillRec = some r → ∃ c, t.wpu.ledger.head? = some c ∧ c.phaseId = r.phaseId ∧
        (c.closed.map FillClose.outcome) = some .abandoned)) ∧
  (∀ (a : ActivePhase) (s : State), s.wsc.wash = .held → s.wsc.active = some a → a.record.kind.isWater = true →
    a.stage = .drain → exec (.editContext 2 0) s = .next (s.onlyAnswered 0x26 (.ok (.held s.heldContext)))) ∧
  (∀ (a : ActivePhase) (g : Agent) (s : State), s.wsc.wash = .held → s.wsc.active = some a → a.record.kind.isWater = true →
    a.stage ≠ .drain → (∀ r ∈ s.dsu.live ++ s.dsu.ended, r.agent ≠ g ∨ r.phaseId ≠ a.record.id) →
    exec (.editContext 1 g.code.toNat) s = .next (s.onlyAnswered 0x26 (.refused .notFound))) ∧
  (∀ (a : ActivePhase) (g : Agent) (s : State), s.wsc.wash = .held → s.wsc.active = some a → a.record.kind.isWater = true →
    a.stage ≠ .drain → (∀ r ∈ s.dsu.live, r.agent ≠ g) →
    s.dsu.ended.any (fun r => decide (r.agent = g ∧ r.phaseId = a.record.id)) = true →
    exec (.editContext 1 g.code.toNat) s = .next (s.onlyAnswered 0x26 (.ok (.held s.heldContext))))

/-! ## The opener's requests, service and SAFE -/

/-- O22. OPENER (R151 to R156): FIELD, BUSY and STATE in the order of R151's tests; an accepted EXTEND releases the latch first or
drives out, an accepted RETRACT drives in; a drive whose end switch reads active already ends DONE at once with OPENER attention. -/
def Obligations.OpenerTakesCommands : Prop :=
  (∀ (n : Nat) (s : State), 1 < n → exec (.opener n) s = .next (s.onlyAnswered 0x30 (.refused .field))) ∧
  (∀ (n : Nat) (s : State), n ≤ 1 → s.dru.opener = .extending ∨ s.dru.opener = .retracting →
    exec (.opener n) s = .next (s.onlyAnswered 0x30 (.refused .busy))) ∧
  (∀ (n : Nat) (s : State), n ≤ 1 → s.dru.opener ≠ .extending → s.dru.opener ≠ .retracting →
    s.cdu.mode = .safe ∨ s.cdu.mode = .service ∨ s.dru.dryHold = true ∨ (n = 0 ↔ s.dru.opener = .retracted) ∨
      n = 1 ∧ (s.hcu.heat ≠ none ∨ s.hcu.energised = true ∨ s.hcu.demand ≠ none ∨ s.hcu.pumpRuns = true ∨
        ∃ a, s.wsc.active = some a ∧ a.stage.isWet = true) →
    exec (.opener n) s = .next (s.onlyAnswered 0x30 (.refused .state))) ∧
  (∀ s : State, s.cdu.mode = .standby ∨ s.cdu.mode = .run → s.dru.dryHold = false → s.dru.opener = .retracted →
    s.hcu.heat = none → s.hcu.energised = false → s.hcu.demand = none → s.hcu.pumpRuns = false →
    (∀ a, s.wsc.active = some a → a.stage.isWet = false) →
    ∃ t st, exec (.opener 1) s = .next t ∧ t.lkp.sending = some ⟨0x30, .ok (.opener st .extend)⟩ ∧ t.dru.opener = st ∧
      t.hcu.pumpRuns = false ∧ t.hcu.heat = none ∧ { t with lkp := s.lkp, dru := s.dru, hcu := s.hcu } = s ∧
      (s.dru.latched = true →
        t.dru = { s.dru with
          opener := .extending, commanded := .extend, issuer := .host, phase := some .releasing, moveMs := 0, solenoid := true
          pulseMs := 0 }) ∧
      (s.dru.latched = false → s.dru.endExtended = false →
        t.dru = { s.dru with
          opener := .extending, commanded := .extend, issuer := .host, phase := some .driving, moveMs := 0
          motor := some .extend }) ∧
      (s.dru.latched = false → s.dru.endExtended = true →
        t.dru.opener = .extended ∧ t.dru.motor = none ∧ t.dru.phase = none ∧ t.dru.last = some ⟨.extend, .host, .done⟩ ∧
        t.told .opener (.opener .extend .done))) ∧
  (∀ s : State, s.cdu.mode = .standby ∨ s.cdu.mode = .run → s.dru.dryHold = false →
    s.dru.opener = .extended ∨ s.dru.opener = .fault ∨ s.dru.opener = .unknownPosition →
    (s.dru.endRetracted = false →
      exec (.opener 0) s = .next { s.onlyAnswered 0x30 (.ok (.opener .retracting .retract)) with
        dru := { s.dru with
          opener := .retracting, commanded := .retract, issuer := .host, phase := some .driving, moveMs := 0
          motor := some .retract } }) ∧
    (s.dru.endRetracted = true →
      ∃ t, exec (.opener 0) s = .next t ∧ t.lkp.sending = some ⟨0x30, .ok (.opener .retracted .retract)⟩ ∧
        t.dru.opener = .retracted ∧ t.dru.motor = none ∧ t.dru.phase = none ∧ t.dru.last = some ⟨.retract, .host, .done⟩ ∧
        t.told .opener (.opener .retract .done) ∧ t.cdu = s.cdu ∧ t.wpu = s.wpu ∧ t.wsc = s.wsc))

/-- O23. ENTER-SERVICE and LEAVE-SERVICE (R186, R188): from STANDBY without an abort drain the mode becomes SERVICE; from SERVICE it
becomes STANDBY, with every running test ended LEFT and every other entry as it was; else STATE, and nothing changes. -/
def Obligations.ServiceIsEnteredAndLeft : Prop :=
  (∀ s : State, s.cdu.mode = .standby → s.wsc.abortDrain = false →
    ∃ t, exec .enterService s = .next t ∧ t.lkp.sending = some ⟨0x38, .ok .empty⟩ ∧ t.cdu.mode = .service ∧
      t.told .mode (.mode .service) ∧ t.lkp.supervision = some 0 ∧ t.cdu.tests = s.cdu.tests ∧ t.wsc = s.wsc ∧ t.dru = s.dru ∧
      t.dsu = s.dsu ∧ t.dyc = s.dyc ∧ t.wpu.meters = s.wpu.meters) ∧
  (∀ s : State, s.cdu.mode ≠ .standby ∨ s.wsc.abortDrain = true →
    exec .enterService s = .next (s.onlyAnswered 0x38 (.refused .state))) ∧
  (∀ s : State, s.cdu.mode = .service →
    ∃ t, exec .leaveService s = .next t ∧ t.lkp.sending = some ⟨0x39, .ok .empty⟩ ∧ t.cdu.mode = .standby ∧
      t.told .mode (.mode .standby) ∧ t.lkp.supervision = none ∧
      (∀ a, (t.testEntry a).running = false) ∧
      (∀ a, (s.testEntry a).running = true → (t.testEntry a).outcome = some .left ∧
        (t.testEntry a).amount = (s.testEntry a).amount) ∧
      (∀ a, (s.testEntry a).running = false → a ≠ .opener → t.testEntry a = s.testEntry a) ∧ t.hcu.pumpRuns = false ∧
      (s.testing .inlet = true → t.wpu.grant ≠ some .test ∧ t.wpu.waitTest = none) ∧
      (s.testing .drainPump = true → t.wpu.drainPump = false) ∧ (s.testing .heater = true → t.hcu.heat = none) ∧
      t.wsc.queue = s.wsc.queue ∧ t.wpu.meters = s.wpu.meters) ∧
  (∀ s : State, s.cdu.mode ≠ .service → exec .leaveService s = .next (s.onlyAnswered 0x39 (.refused .state)))

/-- O24. TEST (R187, R97, R142, R174): the refusals; in SERVICE an accepted test's entry is running with the amount in force, and
its owner starts the actuator: the inlet claims, the pumps run, the circulation pump at speed 3, the heater heats at level 8, the
strokes are asked, the diverter moves, the fan runs. The order of the refusals, and the diverter's amount in force, are the model's
(logs 14 and 39). -/
def Obligations.TestStartsItsActuator : Prop :=
  (∀ (n amount : Nat) (s : State), s.cdu.mode ≠ .service →
    exec (.test n amount) s = .next (s.onlyAnswered 0x3A (.refused .state))) ∧
  (∀ (n amount : Nat) (s : State), s.cdu.mode = .service → 9 < n ∨ n = 9 ∧ 1 < amount →
    exec (.test n amount) s = .next (s.onlyAnswered 0x3A (.refused .field))) ∧
  (∀ (a : Actuator) (amount : Nat) (s : State), s.cdu.mode = .service → (a = .opener → amount ≤ 1) →
    s.testing a = true ∨ (a.agent ≠ none ∧ ∃ b : Actuator, b.agent ≠ none ∧ s.testing b = true) →
    exec (.test a.idx.val amount) s = .next (s.onlyAnswered 0x3A (.refused .busy))) ∧
  (∀ (a : Actuator) (amount : Nat) (s : State), s.cdu.mode = .service → s.testing a = false →
    a = .circPump ∨ a = .heater → s.wpu.waterPresent = false ∨ s.dru.opener ≠ .retracted ∨
      a = .heater ∧ (s.testing .circPump = false ∨ s.doorClass ≠ .closed ∨ s.dru.latched = false) →
    exec (.test a.idx.val amount) s = .next (s.onlyAnswered 0x3A (.refused .state))) ∧
  (∀ (a : Actuator) (amount : Nat) (s : State), s.cdu.mode = .service → a ≠ .opener → s.testing a = false →
    (a.agent ≠ none → ∀ b : Actuator, b.agent ≠ none → s.testing b = false) →
    (a = .circPump → s.wpu.waterPresent = true ∧ s.dru.opener = .retracted) →
    (a = .heater → s.testing .circPump = true ∧ s.wpu.waterPresent = true ∧ s.doorClass = .closed ∧ s.dru.latched = true ∧
      s.dru.opener = .retracted) →
    ∃ t n, exec (.test a.idx.val amount) s = .next t ∧ t.lkp.sending = some ⟨0x3A, .ok .empty⟩ ∧
      t.testEntry a = ⟨true, n, 0, 0, 0, none, none, none, none⟩ ∧ (a ≠ .diverter → clampedTo 1 a.limit amount n) ∧
      (∀ b, b ≠ a → t.testEntry b = s.testEntry b) ∧
      (a = .inlet → s.wpu.inhibit = false →
        (s.wpu.grant = none → t.wpu.grant = some .test ∧ t.wpu.valveOpen = true) ∧
        (s.wpu.grant = some .fill ∨ s.wpu.grant = some .regen → t.wpu.grant = s.wpu.grant ∧ t.wpu.waitTest = some n)) ∧
      (a = .drainPump → t.wpu.drainPump = true) ∧ (a = .circPump → t.hcu.pumpRuns = true ∧ (s.hcu.demand = none →
        t.pumpSpeed = 3)) ∧
      (a = .heater → t.hcu.heat = some ⟨.test, 0, false, none⟩ ∧ (0 ≤ s.hcu.temp → s.hcu.temp ≤ 990 → t.hcu.level = 8)) ∧
      (a = .diverter → ∃ m, t.hcu.move = some m ∧ m.forTest = true ∧ m.ms = 0 ∧
        ∀ z, s.hcu.cam = .at z → m.target = .zone z.next) ∧
      (∀ g, a.agent = some g → t.dsu.testRec = some ⟨g, n, 0, 0, true⟩) ∧ (a = .fan → t.fanRuns = true) ∧
      t.cdu.mode = .service ∧ t.wsc = s.wsc ∧ t.sfu = s.sfu ∧ t.spt = s.spt ∧ t.dru = s.dru ∧ t.dyc = s.dyc ∧
      t.wpu.meters = s.wpu.meters) ∧
  (∀ s : State, s.cdu.mode = .service → s.testing .opener = false → s.dru.opener = .extended ∨ s.dru.opener = .unknownPosition →
    s.dru.endRetracted = false →
    ∃ t, exec (.test 9 0) s = .next t ∧ t.lkp.sending = some ⟨0x3A, .ok .empty⟩ ∧ (t.testEntry .opener).running = true ∧
      t.dru.opener = .retracting ∧ t.dru.issuer = .test ∧ t.dru.motor = some .retract)

/-- O25. SAFE is entered (R183, R175, R178, R5, R17, R138, R92, R118, R157, R188) from STANDBY, RUN or SERVICE by each of the seven
SAFE_ALWAYS conditions: the condition is recorded and is the one SAFE cause, the mode is SAFE with MODE attention, the wet side is
stopped, SAFE draining follows the switches, every test is ended, a RUNNING wash is HELD with the condition as its cause and a HELD
one keeps its own. The open fill, the queue and the program context stay. -/
def Obligations.SafeStopsTheWetSide : Prop :=
  ∀ (cmd : Instr) (c : Condition) (s : State), s.cdu.mode ≠ .safe →
    (cmd = .overfillSwitchChange true ∧ s.wpu.overfillClosed = false ∧ c = .overfill) ∨
    (cmd = .leakFloatChange true ∧ s.wpu.leakWet = false ∧ c = .leak) ∨
    (cmd = .supervisionTimerExpiry ∧ (∃ n, s.lkp.supervision = some n ∧ 2500 ≤ n) ∧ c = .linkLost) ∨
    (cmd = .dryCountExpiry ∧ (∃ n, s.hcu.dry = .counting n ∧ 2000 ≤ n) ∧ c = .heaterDry) ∨
    (∃ a b, cmd = .flowPulse a b ∧ s.wpu.grant = none ∧ s.wpu.window = 40 ∧ c = .inletLeak) ∨
    (∃ r, cmd = .temperatureSample r ∧ 850 ≤ r ∧ r ≤ 990 ∧ s.hcu.noSample = false ∧ 0 ≤ s.hcu.temp ∧ s.hcu.temp < 850 ∧
      c = .overtemp) ∨
    (∃ r, cmd = .temperatureSample r ∧ (r < 0 ∨ 990 < r) ∧ s.hcu.noSample = false ∧ 0 ≤ s.hcu.temp ∧ s.hcu.temp ≤ 990 ∧
      c = .sensorFault) →
    ∃ t, exec cmd s = .next t ∧ t.cdu.mode = .safe ∧ t.cdu.safeSet = [c] ∧ State.recorded s t c ∧ t.told .mode (.mode .safe) ∧
      t.lkp.supervision = none ∧ t.wetSideStopped ∧ t.wpu.drain = none ∧
      t.wpu.drainPump = (t.wpu.leakWet || t.wpu.waterPresent) ∧ (∀ a, (t.testEntry a).running = false) ∧
      (∀ a, (s.testEntry a).running = true → (t.testEntry a).outcome = some .safe) ∧
      t.wsc.abortDrain = false ∧ t.wsc.queue = s.wsc.queue ∧ t.wsc.ctx = s.wsc.ctx ∧ t.wsc.active = s.wsc.active ∧
      t.wpu.fillRec = s.wpu.fillRec ∧ t.wpu.ledger = s.wpu.ledger ∧
      (s.cdu.mode = .run → s.wsc.wash = .running → s.wsc.active ≠ none → t.wsc.wash = .held ∧ t.wsc.cause = some (.condition c)) ∧
      (s.wsc.wash ≠ .running → t.wsc.wash = s.wsc.wash ∧ t.wsc.cause = s.wsc.cause) ∧
      (s.openerMoves = true → t.dru.opener = .unknownPosition ∧ t.dru.motor = none ∧ t.dru.solenoid = false) ∧
      (s.openerMoves = false → t.dru.opener = s.dru.opener)

/-- O26. In SAFE (R178, R184, R19, R185, R194): a further SAFE_ALWAYS condition, each of the seven, is recorded and joins the set
once, and nothing else is stopped or changed; LEAVE-SAFE is refused STATE while a member is active, and else empties the set, lifts
the inhibit, ends SAFE draining, and goes to RUN for a held wash and to STANDBY otherwise. An overfill switch that opens, and a
float that dries outside SAFE, write their field alone. A supervision timer below its 2.5 s, and a dry count below its 2 s, do not
expire (R132). -/
def Obligations.SafeIsKeptAndLeft : Prop :=
  (∀ s : State, s.cdu.mode = .safe → s.wpu.overfillClosed = false →
    ∃ t, exec (.overfillSwitchChange true) s = .next t ∧ t.cdu.mode = .safe ∧ State.recorded s t .overfill ∧
      t.cdu.safeSet = (if Condition.overfill ∈ s.cdu.safeSet then s.cdu.safeSet else s.cdu.safeSet ++ [.overfill]) ∧
      t.wpu = { s.wpu with overfillClosed := true } ∧ { t with lkp := s.lkp, wpu := s.wpu, cdu := s.cdu } = s) ∧
  (∀ s : State, s.cdu.mode = .safe → s.wpu.leakWet = false →
    ∃ t, exec (.leakFloatChange true) s = .next t ∧ t.cdu.mode = .safe ∧ State.recorded s t .leak ∧
      t.cdu.safeSet = (if Condition.leak ∈ s.cdu.safeSet then s.cdu.safeSet else s.cdu.safeSet ++ [.leak]) ∧
      t.wpu = { s.wpu with leakWet := true, drainPump := true } ∧ { t with lkp := s.lkp, wpu := s.wpu, cdu := s.cdu } = s) ∧
  (∀ (cmd : Instr) (c : Condition) (s : State), s.cdu.mode = .safe →
    (∃ r, cmd = .temperatureSample r ∧ 850 ≤ r ∧ r ≤ 990 ∧ s.hcu.noSample = false ∧ 0 ≤ s.hcu.temp ∧ s.hcu.temp < 850 ∧
      s.hcu.heat = none ∧ c = .overtemp) ∨
    (∃ r, cmd = .temperatureSample r ∧ (r < 0 ∨ 990 < r) ∧ s.hcu.noSample = false ∧ 0 ≤ s.hcu.temp ∧ s.hcu.temp ≤ 990 ∧
      s.hcu.heat = none ∧ c = .sensorFault) ∨
    (∃ a b, cmd = .flowPulse a b ∧ s.wpu.grant = none ∧ s.wpu.window = 40 ∧ c = .inletLeak) ∨
    (cmd = .dryCountExpiry ∧ (∃ n, s.hcu.dry = .counting n ∧ 2000 ≤ n) ∧ c = .heaterDry) ∨
    (cmd = .supervisionTimerExpiry ∧ (∃ n, s.lkp.supervision = some n ∧ 2500 ≤ n) ∧ c = .linkLost) →
    ∃ t, exec cmd s = .next t ∧ t.cdu.mode = .safe ∧ State.recorded s t c ∧
      t.cdu.safeSet = (if c ∈ s.cdu.safeSet then s.cdu.safeSet else s.cdu.safeSet ++ [c]) ∧
      (c = .overtemp ∨ c = .sensorFault ∨ c = .linkLost → t.wpu = s.wpu) ∧
      (c = .heaterDry → t.hcu = { s.hcu with dry := .raised } ∧ t.wpu = s.wpu) ∧
      (c = .inletLeak → t.hcu = s.hcu ∧ t.wpu = { s.wpu with
        total := s.wpu.total + 1, unattributed := s.wpu.unattributed + 1, window := 41 }) ∧
      t.hcu.heat = s.hcu.heat ∧ { t with lkp := s.lkp, wpu := s.wpu, hcu := s.hcu, cdu := s.cdu } = s) ∧
  (∀ s : State, s.lkp.supervision = none ∨ (∃ n, s.lkp.supervision = some n ∧ n < 2500) →
        exec .supervisionTimerExpiry s = .next s) ∧
  (∀ s : State, s.hcu.dry = .stopped ∨ s.hcu.dry = .raised ∨ (∃ n, s.hcu.dry = .counting n ∧ n < 2000) →
    exec .dryCountExpiry s = .next s) ∧
  (∀ s : State, s.wpu.overfillClosed = true →
    exec (.overfillSwitchChange false) s = .next { s with wpu := { s.wpu with overfillClosed := false } }) ∧
  (∀ s : State, s.wpu.leakWet = true →
    exec (.leakFloatChange false) s = .next { s with wpu := { s.wpu with
      leakWet := false, drainPump := if s.cdu.mode = .safe then s.wpu.waterPresent else s.wpu.drainPump } }) ∧
  (∀ s : State, s.cdu.mode ≠ .safe ∨ (∃ c ∈ s.cdu.safeSet, s.activeTest c = true) →
    exec .leaveSafe s = .next (s.onlyAnswered 0x3B (.refused .state))) ∧
  (∀ s : State, s.cdu.mode = .safe → (∀ c ∈ s.cdu.safeSet, s.activeTest c = false) →
    ∃ t, exec .leaveSafe s = .next t ∧ t.lkp.sending = some ⟨0x3B, .ok .empty⟩ ∧
      t.cdu.mode = (if s.wsc.wash = .held then .run else .standby) ∧ t.told .mode (.mode t.cdu.mode) ∧ t.cdu.safeSet = [] ∧
      t.wpu.inhibit = false ∧ t.wpu.drainPump = false ∧ t.wsc = s.wsc ∧ t.dru = s.dru ∧ t.dsu = s.dsu ∧
      t.wpu.meters = s.wpu.meters ∧
      (s.sfu.list = [] → s.sfu.run = none → t.wpu.grant = s.wpu.grant ∧ t.cdu.causes = s.cdu.causes ∧ t.cdu.flags = s.cdu.flags))

/-! ## Water -/

/-- O27. The water-present switch and the water account (R16, R19, R132, R188, R6, R7): a new level is written, a drain's empty
count and the count of the service tests start again, SAFE draining follows it, and the dry count stops, or starts where a heat
request is in force. That the level it has already changes nothing is the model's choice (log 19). A pulse adds 1 to the total and 1
to exactly the counter of the grantee; without a grantee it is unattributed and counts in the window, and nothing else changes until
the window passes 40. -/
def Obligations.WaterSwitchAndPulsesAreTaken : Prop :=
  (∀ (b : Bool) (s : State), s.wpu.waterPresent = b → exec (.waterPresentSwitchChange b) s = .next s) ∧
  (∀ (b : Bool) (s : State), s.wpu.waterPresent ≠ b →
    ∃ dry, exec (.waterPresentSwitchChange b) s = .next { s with
      wpu := { s.wpu with
        waterPresent := b
        drain := s.wpu.drain.map fun d => { d with emptyMs := 0 }
        drainPump := if s.cdu.mode = .safe then (s.wpu.leakWet || b) else s.wpu.drainPump }
      hcu := { s.hcu with dry := dry }
      cdu := { s.cdu with dryWaterMs := 0 } } ∧
      (b = true → dry = .stopped) ∧ (b = false → s.hcu.heat ≠ none → s.hcu.dry = .stopped → dry = .counting 0) ∧
      (b = false → s.hcu.heat = none ∨ s.hcu.dry ≠ .stopped → dry = s.hcu.dry)) ∧
  (∀ (a b : Bool) (s : State), ∃ t, exec (.flowPulse a b) s = .next t ∧ t.wpu.total = s.wpu.total + 1 ∧
    t.wpu.fillTotal = s.wpu.fillTotal + (if s.wpu.grant = some .fill then 1 else 0) ∧
    t.wpu.regenTotal = s.wpu.regenTotal + (if s.wpu.grant = some .regen then 1 else 0) ∧
    t.wpu.serviceCount = s.wpu.serviceCount + (if s.wpu.grant = some .test then 1 else 0) ∧
    t.wpu.unattributed = s.wpu.unattributed + (if s.wpu.grant = none then 1 else 0) ∧
    t.wpu.settings = s.wpu.settings ∧ t.dru.angle = s.dru.angle ∧
    (s.wpu.grant = some .test →
      t = { s with wpu := { s.wpu with total := s.wpu.total + 1, serviceCount := s.wpu.serviceCount + 1 } }) ∧
    (s.wpu.grant = none → s.wpu.window ≠ 40 →
      t = { s with wpu := { s.wpu with
        total := s.wpu.total + 1, unattributed := s.wpu.unattributed + 1, window := s.wpu.window + 1 } }))

/-- O28. Routing and charging (R9, R29, R30, R33, R35): a position below n_b, or no service route, is bypass; any other goes to the
service column, which is charged H_raw × 1,000 / K with the remainder kept, and whose comparator is sampled; the valves are then set
for the next position. At a window boundary, position 0, the same holds where no hold is pending and a column is in use or none is
needed, also with n_b = 0. The premises keep the fill open and the column unspent. -/
def Obligations.FillPulseIsRoutedAndCharged : Prop :=
  ∀ (compA compB : Bool) (r : FillRecord) (b : Blend) (s : State), s.wpu.grant = some .fill → s.wpu.fillRec = some r →
    s.sfu.blend = some b → r.pulses + 1 < r.targetPulses →
    r.pulses % 32 ≠ 0 ∨ b.nb = 32 ∧ b.service = none ∨ (∃ d, b.service = some d ∧ (s.col d).holdPending = false) →
    (r.pulses % 32 < b.nb ∨ b.service = none → ∃ valve sel,
      exec (.flowPulse compA compB) s = .next { s with
        wpu := { s.wpu with
          total := s.wpu.total + 1, fillTotal := s.wpu.fillTotal + 1
          fillRec := some { r with pulses := r.pulses + 1, bypass := r.bypass + 1 } }
        sfu := { s.sfu with blendValve := valve, selector := sel } } ∧
      (valve = true ↔ (r.pulses + 1) % 32 < b.nb ∨ b.service = none) ∧ sel = (if valve = true then none else b.service)) ∧
    (∀ c, b.service = some c → b.nb ≤ r.pulses % 32 → 0 < r.k →
      ((s.col c).residue + r.hRaw * 1000) / r.k < (s.col c).remaining →
      ((if c = .a then compA else compB) = false ∨ (s.col c).btRun < 15) →
      ∃ t, exec (.flowPulse compA compB) s = .next t ∧
        (t.col c).remaining + ((s.col c).residue + r.hRaw * 1000) / r.k = (s.col c).remaining ∧
        (t.col c).residue = ((s.col c).residue + r.hRaw * 1000) % r.k ∧
        (t.col c).btRun = (if (if c = .a then compA else compB) = true then (s.col c).btRun + 1 else 0) ∧
        (t.col c).state = (s.col c).state ∧ (t.col c).nominal = (s.col c).nominal ∧ t.col c.other = s.col c.other ∧
        t.wpu = { s.wpu with
          total := s.wpu.total + 1, fillTotal := s.wpu.fillTotal + 1
          fillRec := some { r with
            pulses := r.pulses + 1, colA := if c = .a then r.colA + 1 else r.colA
            colB := if c = .a then r.colB else r.colB + 1 } } ∧
        (t.sfu.blendValve = true ↔ (r.pulses + 1) % 32 < b.nb) ∧ t.sfu.blend = some b ∧ t.sfu.list = s.sfu.list ∧
        { t with wpu := s.wpu, sfu := s.sfu } = s)

/-- O29. A fill completes at its target (R9, R10, R15, R2, R32, R33, R34, R110): the valve closes, the grant leaves FILL, the record
closes COMPLETE with its delivered mL rounded down and its hardness rounded to nearest, enters the ledger as the newest, and sets
FILL attention; the phase in FILL goes on to HEAT or HOLD with circulation. The service column's last charge is made; it stays
IN_SERVICE, a pending hold makes it HELD, and spent it is EXHAUSTED and, under automatic regeneration, takes the inlet for its
BRINE. The selection that a spent column calls for runs in this pulse (R24, R34), and a HARD_FILL of it comes after the target test
(R9); a sentence of R9 that speaks of the next grant is read with R34 (log 23). The phase has no doses. -/
def Obligations.FillCompletesAtItsTarget : Prop :=
  (∀ (compA compB : Bool) (r : FillRecord) (b : Blend) (a : ActivePhase) (x : ProgramContext) (s : State),
    s.wpu.grant = some .fill → s.wpu.fillRec = some r → s.sfu.blend = some b → b.nb = 32 → b.service = none →
    r.targetPulses ≤ r.pulses + 1 → s.wpu.waitFill = none → s.wsc.active = some a → s.wsc.wash = .running →
    a.stage = .fill → a.record.detergent = none → a.record.additive = none → a.record.rinse = none → s.wsc.ctx = some x →
    x.total + (r.pulses + 1) * 1000 / r.k < 4294967296 →
    ∃ t c d, exec (.flowPulse compA compB) s = .next t ∧ t.wpu.fillRec = none ∧ t.sfu.blend = none ∧
      t.wpu.grant ≠ some .fill ∧ (s.wpu.waitRegen = none → s.wpu.waitTest = none → t.wpu.grant = none ∧ t.wpu.valveOpen = false) ∧
      t.wpu.ledger = (c :: s.wpu.ledger).take 8 ∧ c.closed = some d ∧ c.pulses = r.pulses + 1 ∧ c.bypass = r.bypass + 1 ∧
      c.phaseId = r.phaseId ∧ d.outcome = .complete ∧ d.delivered = (r.pulses + 1) * 1000 / r.k ∧
      2 * d.hardness * c.pulses ≤ 2 * (r.hRaw * c.bypass) + c.pulses ∧
      2 * (r.hRaw * c.bypass) + c.pulses < 2 * (d.hardness + 1) * c.pulses ∧
      t.told .fill (.fill r.phaseId .complete) ∧
      t.wsc.ctx = some { x with total := x.total + (r.pulses + 1) * 1000 / r.k } ∧ t.wsc.wash = .running ∧
      t.hcu.demand = some a.record.speed ∧
      t.wsc.active = some { a with stage := if 0 < a.target then .heat else .hold, filled := true } ∧
      (0 < a.target → t.hcu.heat = some ⟨.heat, a.target, false, none⟩)) ∧
  (∀ (compA compB : Bool) (r : FillRecord) (b : Blend) (c : Column) (a : ActivePhase) (x : ProgramContext) (s : State),
    s.wpu.grant = some .fill → s.wpu.fillRec = some r → s.sfu.blend = some b → b.service = some c → b.nb ≤ r.pulses % 32 →
    r.pulses % 32 ≠ 0 ∨ (s.col c).holdPending = false → r.targetPulses ≤ r.pulses + 1 → 0 < r.k → s.wpu.waitFill = none →
    s.wpu.waitRegen = none → s.wpu.waitTest = none → s.cdu.mode = .run → s.wsc.active = some a → s.wsc.wash = .running →
    a.stage = .fill → a.record.detergent = none → a.record.additive = none → a.record.rinse = none → s.wsc.ctx = some x →
    (s.col c).state = .inService → (s.col c.other).state ≠ .inService → (s.col c.other).holdPending = false → s.sfu.list = [] →
    s.sfu.settings.automatic = false → (if c = .a then compA else compB) = false ∨ (s.col c).btRun < 15 →
    ∃ t l, exec (.flowPulse compA compB) s = .next t ∧ t.wpu.fillRec = none ∧ t.wpu.grant = none ∧ t.wpu.valveOpen = false ∧
      t.sfu.blend = none ∧ t.sfu.blendValve = false ∧ t.sfu.selector = none ∧ t.sfu.list = [] ∧
      t.wpu.ledger = (l :: s.wpu.ledger).take 8 ∧ l.pulses = r.pulses + 1 ∧ l.bypass = r.bypass ∧
      l.colA = (if c = .a then r.colA + 1 else r.colA) ∧ l.colB = (if c = .a then r.colB else r.colB + 1) ∧
      (l.closed.map FillClose.outcome) = some .complete ∧ t.told .fill (.fill r.phaseId .complete) ∧
      t.wsc.active = some { a with stage := if 0 < a.target then .heat else .hold, filled := true } ∧
      (t.col c).residue = ((s.col c).residue + r.hRaw * 1000) % r.k ∧
      (((s.col c).residue + r.hRaw * 1000) / r.k < (s.col c).remaining →
        (t.col c).remaining + ((s.col c).residue + r.hRaw * 1000) / r.k = (s.col c).remaining ∧
        (t.col c).state = (if (s.col c).holdPending = true then .held else .inService) ∧ (t.col c).holdPending = false ∧
        t.col c.other = s.col c.other ∧ t.cdu = s.cdu ∧ t.wsc.wash = .running) ∧
      ((s.col c).remaining ≤ ((s.col c).residue + r.hRaw * 1000) / r.k → (s.col c).holdPending = false →
        (t.col c).state = .exhausted ∧ (t.col c).remaining = 0 ∧
        ((s.col c.other).state = .fresh → t.cdu = s.cdu ∧ t.wsc.wash = .running ∧
          t.col c.other = { s.col c.other with state := .inService } ∧ t.sfu.pref = c) ∧
        ((s.col c.other).state ≠ .fresh → t.col c.other = s.col c.other ∧ t.sfu.pref = s.sfu.pref ∧
          (b.hardFill = true → t.cdu = s.cdu ∧ t.wsc.wash = .running) ∧
          (b.hardFill = false → State.recorded s t .hardFill ∧
            (hasCondition s.cdu.traps .hardFill ∨ a.record.softRequired = true →
              t.wsc.wash = .held ∧ t.wsc.cause = some (.condition .hardFill)) ∧
            (¬hasCondition s.cdu.traps .hardFill → a.record.softRequired = false → t.wsc.wash = .running))))) ∧
  (∀ (compA compB : Bool) (r : FillRecord) (b : Blend) (c : Column) (s : State), s.wpu.grant = some .fill →
    s.wpu.fillRec = some r → s.sfu.blend = some b → b.service = some c → b.nb ≤ r.pulses % 32 → r.pulses % 32 ≠ 0 →
    r.targetPulses ≤ r.pulses + 1 → 0 < r.k → s.wpu.inhibit = false → s.wpu.waitFill = none → s.wpu.waitRegen = none →
    s.cdu.mode = .run → (s.col c).state = .inService → (s.col c).holdPending = false →
    (s.col c).remaining ≤ ((s.col c).residue + r.hRaw * 1000) / r.k → (s.col c.other).state = .fresh → s.sfu.list = [] →
    s.sfu.settings.automatic = true → s.sfu.settings.window = .anytime → (∀ q, s.sfu.run = some q → q.outcome ≠ none) →
    ∃ t q, exec (.flowPulse compA compB) s = .next t ∧ t.wpu.fillRec = none ∧ t.sfu.list = [⟨c, false⟩] ∧ t.sfu.run = some q ∧
      q.column = c ∧ q.stage = .running .brine ∧ t.wpu.grant = some .regen ∧ t.wpu.valveOpen = true ∧
      (t.col c).state = .regenerating ∧ (t.col c).remaining = 0 ∧ t.sfu.pref = c ∧ ((s.col c.other).holdPending = false →
        (t.col c.other).state = .inService))

/-- O30. Exhaustion and breakthrough inside a fill (R33, R34, R35, R25 to R27, R38, R47, R48): a pulse whose charge uses the column
up, or the sixteenth asserted sample in a row, exhausts it; breakthrough also lowers nominal by half of what was left, to 2,000,000
at least, and raises EARLY_BREAKTHROUGH. Under automatic regeneration the column enters the list at its end, and with the list empty
its run starts and waits for the inlet or its window; with a hold pending it becomes HELD and is not listed. A FRESH unlisted other
column is taken at once, and the preference names the spent one. Without a candidate the same pulse raises HARD_FILL, once in a
grant: its trap, or a soft-required phase, holds the wash, and its default goes on in bypass. The fill is not yet at its target. -/
def Obligations.ColumnIsExhausted : Prop :=
  (∀ (compA compB : Bool) (r : FillRecord) (b : Blend) (c : Column) (s : State), s.wpu.grant = some .fill →
    s.wpu.fillRec = some r → s.sfu.blend = some b → b.service = some c → b.nb ≤ r.pulses % 32 →
    r.pulses % 32 ≠ 0 ∨ (s.col c).holdPending = false → r.pulses + 1 < r.targetPulses → 0 < r.k → s.wpu.inhibit = false →
    s.cdu.mode = .run → (s.col c).state = .inService → s.listed c = false → (s.col c.other).state = .fresh →
    s.listed c.other = false →
    (s.col c).remaining ≤ ((s.col c).residue + r.hRaw * 1000) / r.k ∨
      (s.col c).btRun = 15 ∧ (if c = .a then compA else compB) = true →
    ∃ t, exec (.flowPulse compA compB) s = .next t ∧ (t.col c).remaining = 0 ∧ (t.col c).holdPending = false ∧
      t.col c.other = { s.col c.other with state := .inService } ∧ t.sfu.pref = c ∧
      t.sfu.blend = some { b with service := some c.other, bypassAll := false } ∧ t.wsc = s.wsc ∧ t.cdu.mode = .run ∧
      t.wpu.grant = some .fill ∧
      t.wpu.fillRec = some { r with
        pulses := r.pulses + 1, colA := if c = .a then r.colA + 1 else r.colA
        colB := if c = .a then r.colB else r.colB + 1 } ∧
      ((s.col c).remaining ≤ ((s.col c).residue + r.hRaw * 1000) / r.k →
        (t.col c).nominal = (s.col c).nominal ∧ t.cdu = s.cdu) ∧
      (∀ left, (s.col c).remaining = left + ((s.col c).residue + r.hRaw * 1000) / r.k → 0 < left →
        (t.col c).nominal = max 2000000 ((s.col c).nominal - left / 2) ∧ (t.col c).btRun = 16 ∧
        State.recorded s t .earlyBreakthrough) ∧
      ((s.col c).holdPending = true → (t.col c).state = .held ∧ (t.col c).holdReason = some .host ∧ t.sfu.list = s.sfu.list ∧
        t.sfu.run = s.sfu.run ∧ t.wpu.waitRegen = s.wpu.waitRegen) ∧
      ((s.col c).holdPending = false → (t.col c).state = .exhausted ∧
        (s.sfu.settings.automatic = false → t.sfu.list = s.sfu.list ∧ t.sfu.run = s.sfu.run ∧
          t.wpu.waitRegen = s.wpu.waitRegen) ∧
        (s.sfu.settings.automatic = true →
          t.sfu.list.map RegenEntry.column = s.sfu.list.map RegenEntry.column ++ [c]) ∧
        (s.sfu.settings.automatic = true → s.sfu.list = [] → (∀ q, s.sfu.run = some q → q.outcome ≠ none) →
          ∃ q, t.sfu.run = some q ∧ q.column = c ∧ q.outcome = none ∧ q.brine = s.sfu.settings.brine ∧
            (s.sfu.settings.window = .anytime → q.stage = .waitInlet .brine ∧ t.wpu.waitRegen = some .brine) ∧
            (s.sfu.settings.window = .quiet → (∀ a, s.wsc.active = some a → a.record.kind ≠ .dry) →
              q.stage = .waitWindow ∧ t.wpu.waitRegen = s.wpu.waitRegen)))) ∧
  (∀ (compA compB : Bool) (r : FillRecord) (b : Blend) (c : Column) (a : ActivePhase) (s : State), s.wpu.grant = some .fill →
    s.wpu.fillRec = some r → s.sfu.blend = some b → b.service = some c → b.nb ≤ r.pulses % 32 → r.pulses % 32 ≠ 0 →
    r.pulses + 1 < r.targetPulses → 0 < r.k → s.wpu.inhibit = false → s.cdu.mode = .run → s.wsc.wash = .running →
    s.wsc.active = some a → a.stage = .fill → s.wpu.waitFill = none → s.wpu.waitRegen = none → s.wpu.waitTest = none →
    (s.col c).state = .inService → (s.col c).remaining ≤ ((s.col c).residue + r.hRaw * 1000) / r.k →
    (s.col c.other).state ≠ .inService → ((s.col c.other).state = .fresh → s.listed c.other = true) →
    ¬((s.col c).holdPending = false ∧ s.sfu.settings.automatic = true) →
    ∃ t, exec (.flowPulse compA compB) s = .next t ∧ (t.col c).remaining = 0 ∧ t.wsc.active = some a ∧
      (t.col c).state = (if (s.col c).holdPending = true then .held else .exhausted) ∧
      t.wpu.fillRec = some { r with
        pulses := r.pulses + 1, colA := if c = .a then r.colA + 1 else r.colA
        colB := if c = .a then r.colB else r.colB + 1 } ∧
      t.sfu.blend = some { b with service := none, bypassAll := true, hardFill := true } ∧ t.sfu.pref = s.sfu.pref ∧
      t.sfu.list = s.sfu.list ∧
      (b.hardFill = true → t.cdu = s.cdu ∧ t.wsc = s.wsc ∧ t.wpu.grant = some .fill) ∧
      (b.hardFill = false → State.recorded s t .hardFill ∧
        (hasCondition s.cdu.traps .hardFill ∨ a.record.softRequired = true →
          t.wsc.wash = .held ∧ t.wsc.cause = some (.condition .hardFill) ∧ t.wpu.grant = none ∧ t.wpu.valveOpen = false) ∧
        (¬hasCondition s.cdu.traps .hardFill → a.record.softRequired = false →
          t.wsc = s.wsc ∧ t.wpu.grant = some .fill ∧ t.wpu.valveOpen = s.wpu.valveOpen ∧ t.sfu.blendValve = true ∧
          t.sfu.selector = none))) ∧
  (∀ (compA compB : Bool) (r : FillRecord) (b : Blend) (c : Column) (a : ActivePhase) (s : State), s.wpu.grant = some .fill →
    s.wpu.fillRec = some r → s.sfu.blend = some b → b.service = some c → b.nb ≤ r.pulses % 32 →
    r.pulses + 1 < r.targetPulses → 0 < r.k → s.wpu.inhibit = false → s.cdu.mode = .run → s.wsc.wash = .running →
    s.wsc.active = some a → a.stage = .fill → s.wpu.waitFill = none → s.wpu.waitTest = none →
    (s.col c).state = .inService → (s.col c).remaining ≤ ((s.col c).residue + r.hRaw * 1000) / r.k →
    (s.col c.other).state ≠ .inService → ((s.col c.other).state = .fresh → s.listed c.other = true) →
    (s.col c).holdPending = false → s.sfu.settings.automatic = true → s.listed c = false →
    ∃ t, exec (.flowPulse compA compB) s = .next t ∧ (t.col c).remaining = 0 ∧ t.wsc.active = some a ∧
      t.wpu.fillRec = some { r with
        pulses := r.pulses + 1, colA := if c = .a then r.colA + 1 else r.colA
        colB := if c = .a then r.colB else r.colB + 1 } ∧
      t.sfu.blend = some { b with service := none, bypassAll := true, hardFill := true } ∧ t.sfu.pref = s.sfu.pref ∧
      t.sfu.list.map RegenEntry.column = s.sfu.list.map RegenEntry.column ++ [c] ∧
      (b.hardFill = true → t.cdu = s.cdu ∧ t.wsc = s.wsc ∧ t.wpu.grant = some .fill ∧ (t.col c).state = .exhausted) ∧
      (b.hardFill = false → hasCondition t.cdu.flags .hardFill ∧
        (hasCondition s.cdu.traps .hardFill ∨ a.record.softRequired = true →
          t.wsc.wash = .held ∧ t.wsc.cause = some (.condition .hardFill) ∧ t.wpu.grant ≠ some .fill) ∧
        (¬hasCondition s.cdu.traps .hardFill → a.record.softRequired = false →
          State.recorded s t .hardFill ∧ t.wsc = s.wsc ∧ t.wpu.grant = some .fill ∧ (t.col c).state = .exhausted ∧
          t.sfu.blendValve = true ∧ t.sfu.selector = none)))

/-- O31. The inlet's arbiter (R1, R2, R3, R11, R50, R119): a FILL claim of a RESUME waits behind a regeneration stage, a BRINE claim
of a REGEN-NOW waits behind a fill, and neither changes the grant. A stage that ends hands the inlet to a waiting fill before its
own next stage and before a test: a new record opens, or an open one is taken up with its seconds; a fill that completes hands it to
the waiting stage while its phase goes on to HEAT or HOLD (R110), and without either the test gets it. A hold withdraws a waiting
FILL claim. -/
def Obligations.InletIsArbitrated : Prop :=
  (∀ (a : ActivePhase) (r : FillRecord) (c : Claimant) (s : State), s.wsc.wash = .held → s.cdu.mode = .run →
    s.wsc.active = some a → a.stage = .fill → s.doorClass = .closed → s.dru.latched = true → s.cdu.causes = 0 → s.dsu.live = [] →
    s.wpu.fillRec = some r → s.wpu.inhibit = false → s.wpu.grant = some c → c ≠ .fill →
    ∃ t, exec .resume s = .next t ∧ t.lkp.sending = some ⟨0x24, .ok .empty⟩ ∧
      t.wsc = { s.wsc with wash := .running, cause := none } ∧
      t.wpu = { s.wpu with waitFill := some ⟨a.record.id, a.record.fill⟩ } ∧ t.sfu = s.sfu ∧ t.cdu = s.cdu ∧ t.hcu = s.hcu) ∧
  (∀ (c : Column) (s : State), (s.col c).state = .fresh ∨ (s.col c).state = .exhausted → s.sfu.list = [] → s.sfu.run = none →
    s.cdu.mode ≠ .safe → s.sfu.settings.window = .anytime → s.wpu.inhibit = false →
    s.wpu.grant = some .fill ∨ s.wpu.grant = some .test →
    ∃ t r, exec (.regenNow c.code.toNat) s = .next t ∧ t.wpu = { s.wpu with waitRegen := some .brine } ∧ t.sfu.run = some r ∧
      r.stage = .waitInlet .brine ∧ r.column = c ∧ r.outcome = none ∧ t.sfu = { s.sfu with list := [⟨c, false⟩], run := some r } ∧
      t.cdu = s.cdu ∧ t.wsc = s.wsc) ∧
  (∀ (r : RunRecord) (f : FillClaim) (o : FillRecord) (b : Blend) (s : State), s.wpu.grant = some .regen → s.sfu.run = some r →
    r.outcome = none →
    r.stage = .running .slowRinse → r.slow * 1000 ≤ r.stageMs → s.wpu.inhibit = false → s.wpu.waitFill = some f →
    s.wpu.waitRegen = none →
    s.wpu.fillRec = none ∧ s.wpu.settings.hRaw ≤ s.wpu.settings.hT ∨
      s.wpu.fillRec = some o ∧ s.sfu.blend = some b ∧ b.nb = 32 →
    ∃ t q, exec .slowRinseEnd s = .next t ∧ t.wpu.waitFill = none ∧ t.wpu.waitRegen = some .fastRinse ∧
      t.wpu.waitTest = s.wpu.waitTest ∧ t.sfu.run = some q ∧ q.stage = .waitInlet .fastRinse ∧ q.outcome = none ∧
      q.targetPulses = none ∧ t.sfu.restrictor = false ∧ t.sfu.brineValve = false ∧ t.wpu.meters = s.wpu.meters ∧
      (s.wpu.fillRec = none →
        ∃ o, t.wpu.grant = some .fill ∧ t.wpu.valveOpen = true ∧ t.wpu.window = 0 ∧ t.wpu.fillRec = some o ∧
          o.phaseId = f.phaseId ∧ o.target = f.target ∧ o.pulses = 0 ∧ t.wpu.fillMs = 0 ∧ t.cdu = s.cdu) ∧
      (s.wpu.fillRec = some o → t.wpu.grant = some .fill ∧ t.wpu.valveOpen = true ∧
        t.wpu.window = 0 ∧ t.wpu.fillRec = some o ∧ t.wpu.fillMs = s.wpu.fillMs ∧ t.cdu = s.cdu ∧
        t.sfu.blend = some { b with service := none, hardFill := false })) ∧
  (∀ (compA compB : Bool) (r : FillRecord) (b : Blend) (q : RunRecord) (st : RegenStage) (a : ActivePhase) (s : State),
    s.wpu.grant = some .fill → s.wpu.fillRec = some r → s.sfu.blend = some b → b.nb = 32 → b.service = none →
    r.targetPulses ≤ r.pulses + 1 → s.wpu.inhibit = false → s.wpu.waitFill = none → s.wpu.waitRegen = some st →
    s.sfu.run = some q → q.outcome = none → s.wsc.active = some a → a.stage = .fill → s.wsc.wash = .running →
    s.cdu.mode = .run → a.record.detergent = none → a.record.additive = none → a.record.rinse = none →
    ∃ t p, exec (.flowPulse compA compB) s = .next t ∧ t.wpu.fillRec = none ∧ t.wpu.grant = some .regen ∧
      t.wpu.valveOpen = true ∧ t.wpu.window = 0 ∧ t.wpu.waitRegen = none ∧ t.wpu.waitTest = s.wpu.waitTest ∧
      t.sfu.run = some p ∧ p.stage = .running st ∧ p.stagePulses = some 0 ∧ p.stageK = some s.wpu.settings.k ∧
      t.sfu.selector = some q.column ∧ t.wsc.wash = .running ∧ t.hcu.demand = some a.record.speed ∧
      t.wsc.active = some { a with stage := if 0 < a.target then .heat else .hold, filled := true }) ∧
  (∀ (a b : Bool) (r : RunRecord) (n w : Nat) (e : RegenEntry) (s : State), s.wpu.grant = some .regen → s.sfu.run = some r →
    r.outcome = none → r.stage = .running .fastRinse → r.stagePulses = some n → r.targetPulses = some (n + 1) →
    s.wpu.waitFill = none → s.wpu.waitRegen = none → s.wpu.waitTest = some w → s.sfu.list = [e] →
    ∃ t, exec (.flowPulse a b) s = .next t ∧ t.wpu.grant = some .test ∧ t.wpu.valveOpen = true ∧ t.wpu.waitTest = none ∧
      t.wpu.window = 0 ∧ t.sfu.selector = none) ∧
  (∀ (a : ActivePhase) (f : FillClaim) (c : Claimant) (s : State), s.cdu.mode = .run → s.wsc.wash = .running →
    s.wsc.active = some a → a.stage = .fill → s.wpu.waitFill = some f → s.wpu.grant = some c → c ≠ .fill →
    ∃ t, exec .pause s = .next t ∧ t.wsc = { s.wsc with wash := .held, cause := some .hostPause } ∧
      t.wpu = { s.wpu with waitFill := none } ∧ t.sfu = s.sfu ∧ t.cdu = s.cdu)

/-- O32. Column selection (R24 to R27, R30 to R33, R39): at a re-grant an IN_SERVICE column is kept; else of two candidates the
preferred one is taken, of one that one, and the preference names the other. That the bypass-all mark is cleared where a column is
kept is the model's choice (log 31). Without a candidate HARD_FILL is raised: its trap, or a soft-required phase, holds the wash,
and its default goes on in bypass. At a window boundary a fill in bypass takes a candidate, which with n_b = 0 is charged by that
pulse already, raises no second HARD_FILL, and a pending hold makes the service column HELD; without another column HARD_FILL is
raised there too. The end of the grant makes it HELD as well. -/
def Obligations.ColumnIsSelected : Prop :=
  (∀ (a : ActivePhase) (r : FillRecord) (b : Blend) (s : State), s.wsc.wash = .held → s.cdu.mode = .run →
    s.wsc.active = some a → a.stage = .fill → s.doorClass = .closed → s.dru.latched = true → s.cdu.causes = 0 → s.dsu.live = [] →
    s.wpu.fillRec = some r → s.wpu.inhibit = false → s.wpu.grant = none → s.wpu.waitRegen = none → s.wpu.waitTest = none →
    s.sfu.blend = some b → b.nb < 32 →
    ∃ t, exec .resume s = .next t ∧ t.lkp.sending = some ⟨0x24, .ok .empty⟩ ∧ t.wpu.fillRec = some r ∧ t.wpu.fillMs = s.wpu.fillMs ∧
      t.wpu.meters = s.wpu.meters ∧
      (∀ c, (s.col c).state = .inService → (s.col c.other).state ≠ .inService → t.wpu.grant = some .fill ∧
        t.wpu.valveOpen = true ∧ t.sfu.blend = some { b with service := some c, bypassAll := false, hardFill := false } ∧
        t.sfu.colA = s.sfu.colA ∧ t.sfu.colB = s.sfu.colB ∧ t.sfu.pref = s.sfu.pref ∧ t.cdu = s.cdu) ∧
      (∀ c, (s.col c).state = .fresh → s.listed c = false → (s.col c.other).state ≠ .inService →
        c = s.sfu.pref ∨ (s.col c.other).state ≠ .fresh ∨ s.listed c.other = true →
        t.wpu.grant = some .fill ∧ t.wpu.valveOpen = true ∧ t.col c = { s.col c with state := .inService } ∧
        t.col c.other = s.col c.other ∧ t.sfu.pref = c.other ∧ t.told .column (.column c .inService) ∧
        t.sfu.blend = some { b with service := some c, bypassAll := false, hardFill := false } ∧ t.cdu = s.cdu) ∧
      ((∀ c, (s.col c).state ≠ .inService ∧ ((s.col c).state = .fresh → s.listed c = true)) → State.recorded s t .hardFill ∧
        t.sfu.blend = some { b with service := none, bypassAll := true, hardFill := true } ∧
        t.sfu.pref = s.sfu.pref ∧
        (hasCondition s.cdu.traps .hardFill ∨ a.record.softRequired = true → t.wsc.wash = .held ∧
          t.wsc.cause = some (.condition .hardFill) ∧ t.wpu.grant = none ∧ t.wpu.valveOpen = false) ∧
        (¬hasCondition s.cdu.traps .hardFill → a.record.softRequired = false → t.wsc.wash = .running ∧
          t.wsc.cause = none ∧ t.wpu.grant = some .fill ∧ t.wpu.valveOpen = true ∧ t.sfu.blendValve = true ∧
          t.sfu.selector = none ∧ t.sfu.colA = s.sfu.colA ∧ t.sfu.colB = s.sfu.colB))) ∧
  (∀ (compA compB : Bool) (r : FillRecord) (b : Blend) (s : State), s.wpu.grant = some .fill → s.wpu.fillRec = some r →
    s.sfu.blend = some b → r.pulses % 32 = 0 → b.nb < 32 → r.pulses + 1 < r.targetPulses →
    0 < b.nb ∨ b.service = none ∧ (∀ c, (s.col c).state ≠ .inService ∧ ((s.col c).state = .fresh → s.listed c = true)) →
    ∃ t, exec (.flowPulse compA compB) s = .next t ∧
      t.wpu.fillRec = some { r with pulses := r.pulses + 1, bypass := r.bypass + 1 } ∧
      (∀ c, b.service = none → (s.col c).state = .fresh → s.listed c = false → (s.col c.other).state ≠ .inService →
        (s.col c.other).state ≠ .fresh ∨ s.listed c.other = true →
        t.sfu.blend = some { b with service := some c, bypassAll := false } ∧ t.col c = { s.col c with state := .inService } ∧
        t.col c.other = s.col c.other ∧ t.sfu.pref = c.other ∧ t.told .column (.column c .inService) ∧ t.cdu = s.cdu) ∧
      (b.service = none → b.hardFill = true →
        (∀ c, (s.col c).state ≠ .inService ∧ ((s.col c).state = .fresh → s.listed c = true)) →
        t.sfu.blend = some { b with bypassAll := true } ∧ t.cdu = s.cdu ∧ t.lkp = s.lkp ∧ t.wsc = s.wsc) ∧
      (∀ c, b.service = some c → (s.col c).holdPending = true → (s.col c).state = .inService → (s.col c.other).state = .fresh →
        s.listed c.other = false →
        t.col c = { s.col c with state := .held, holdReason := some .host, holdPending := false } ∧
        t.col c.other = { s.col c.other with state := .inService } ∧ t.sfu.pref = c ∧
        t.sfu.blend = some { b with service := some c.other, bypassAll := false } ∧ t.cdu = s.cdu)) ∧
    (∀ (compA compB : Bool) (r : FillRecord) (b : Blend) (d : Column) (s : State), s.wpu.grant = some .fill →
    s.wpu.fillRec = some r → s.sfu.blend = some b → r.pulses % 32 = 0 → b.nb = 0 → r.pulses + 1 < r.targetPulses → 0 < r.k →
    (s.col d).state = .fresh → s.listed d = false →
    b.service = none ∧ (s.col d.other).state ≠ .inService ∧ (d = s.sfu.pref ∨ (s.col d.other).state ≠ .fresh ∨
        s.listed d.other = true) ∨
      b.service = some d.other ∧ (s.col d.other).holdPending = true ∧ (s.col d.other).state = .inService →
    ((s.col d).residue + r.hRaw * 1000) / r.k < (s.col d).remaining →
    (if d = .a then compA else compB) = false ∨ (s.col d).btRun < 15 →
    ∃ t, exec (.flowPulse compA compB) s = .next t ∧ (t.col d).state = .inService ∧ t.sfu.pref = d.other ∧
      t.sfu.blend = some { b with service := some d, bypassAll := false } ∧
      t.wpu.fillRec = some { r with
        pulses := r.pulses + 1, colA := if d = .a then r.colA + 1 else r.colA
        colB := if d = .a then r.colB else r.colB + 1 } ∧
      (t.col d).remaining + ((s.col d).residue + r.hRaw * 1000) / r.k = (s.col d).remaining ∧
      (t.col d).residue = ((s.col d).residue + r.hRaw * 1000) % r.k ∧ t.cdu = s.cdu ∧ t.wsc = s.wsc ∧
      t.col d.other = (if b.service = none then s.col d.other else
        { s.col d.other with state := .held, holdReason := some .host, holdPending := false })) ∧
  (∀ (compA compB : Bool) (r : FillRecord) (b : Blend) (c : Column) (a : ActivePhase) (s : State), s.wpu.grant = some .fill →
    s.wpu.fillRec = some r → s.sfu.blend = some b → r.pulses % 32 = 0 → b.nb < 32 → r.pulses + 1 < r.targetPulses →
    s.cdu.mode = .run → s.wsc.wash = .running → s.wsc.active = some a → a.stage = .fill → s.wpu.waitFill = none →
    s.wpu.waitRegen = none → s.wpu.waitTest = none → b.service = some c → b.hardFill = false → (s.col c).holdPending = true →
    (s.col c).state = .inService → (s.col c.other).state ≠ .inService →
    ((s.col c.other).state = .fresh → s.listed c.other = true) →
    ∃ t, exec (.flowPulse compA compB) s = .next t ∧ State.recorded s t .hardFill ∧
      t.col c = { s.col c with state := .held, holdReason := some .host, holdPending := false } ∧
      t.wpu.fillRec = some { r with pulses := r.pulses + 1, bypass := r.bypass + 1 } ∧
      t.sfu.blend = some { b with service := none, bypassAll := true, hardFill := true } ∧
      (hasCondition s.cdu.traps .hardFill ∨ a.record.softRequired = true →
        t.wsc.wash = .held ∧ t.wsc.cause = some (.condition .hardFill) ∧ t.wpu.grant = none) ∧
      (¬hasCondition s.cdu.traps .hardFill → a.record.softRequired = false → t.wsc = s.wsc ∧ t.wpu.grant = some .fill)) ∧
  (∀ (a : ActivePhase) (c : Column) (s : State), s.cdu.mode = .run → s.wsc.wash = .running → s.wsc.active = some a →
    a.stage = .fill → s.wpu.grant = some .fill → s.wpu.waitRegen = none → s.wpu.waitTest = none →
    (s.col c).holdPending = true → (s.col c).state = .inService →
    ∃ t, exec .pause s = .next t ∧ t.wpu.grant = none ∧ t.wpu.valveOpen = false ∧ t.sfu.blendValve = false ∧
      t.sfu.selector = none ∧ t.col c = { s.col c with state := .held, holdReason := some .host, holdPending := false } ∧
      ((s.col c.other).holdPending = false → t.col c.other = s.col c.other ∧ t.told .column (.column c .held)) ∧
      t.sfu.blend = s.sfu.blend)

/-- O33. The fill time limit (R12, R13, R176, R118): with the counted time at the limit of the record's code, 60, 120, 180 or 300 s,
FILL_SLOW is raised with the valve closed; its trap holds the wash with the record open; without the trap, half the target or more
closes the record SHORT_ACCEPTED, and less raises NO_WATER, which holds the wash. Below the limit, or while it does not count,
nothing happens. -/
def Obligations.FillLimitExpires : Prop :=
  (∀ s : State, s.wpu.grant ≠ some .fill ∨ s.wpu.valveOpen = false → exec .fillTimeLimitExpiry s = .next s) ∧
  (∀ (r : FillRecord) (s : State), s.wpu.fillRec = some r →
    s.wpu.fillMs < (if r.limitCode = 0 then 60 else if r.limitCode = 1 then 120 else if r.limitCode = 2 then 180 else 300) * 1000 →
    exec .fillTimeLimitExpiry s = .next s) ∧
  (∀ (r : FillRecord) (a : ActivePhase) (s : State), s.wpu.grant = some .fill → s.wpu.valveOpen = true →
    s.wpu.fillRec = some r →
    (if r.limitCode = 0 then 60 else if r.limitCode = 1 then 120 else if r.limitCode = 2 then 180 else 300) * 1000 ≤ s.wpu.fillMs →
    s.cdu.mode = .run → s.wsc.wash = .running → s.wsc.active = some a → a.stage = .fill → s.wpu.waitFill = none →
    ∃ t, exec .fillTimeLimitExpiry s = .next t ∧ hasCondition t.cdu.causes .fillSlow ∧ hasCondition t.cdu.flags .fillSlow ∧
      t.wpu.grant ≠ some .fill ∧ t.wpu.fillMs = 0 ∧ t.wpu.meters = s.wpu.meters ∧ t.cdu.mode = .run ∧
      (hasCondition s.cdu.traps .fillSlow → t.wpu.fillRec = some r ∧ t.wsc.wash = .held ∧
        t.wsc.cause = some (.condition .fillSlow) ∧ t.wsc.active = some a ∧ t.wpu.ledger = s.wpu.ledger) ∧
      (¬hasCondition s.cdu.traps .fillSlow → r.pulses * 2 < r.targetPulses → t.wpu.fillRec = some r ∧ t.wsc.wash = .held ∧
        t.wsc.cause = some (.condition .noWater) ∧ hasCondition t.cdu.causes .noWater ∧ t.wpu.ledger = s.wpu.ledger) ∧
      (¬hasCondition s.cdu.traps .fillSlow → r.targetPulses ≤ r.pulses * 2 → t.wpu.fillRec = none ∧
        t.told .fill (.fill r.phaseId .shortAccepted) ∧
        ∃ c d, t.wpu.ledger = (c :: s.wpu.ledger).take 8 ∧ c.pulses = r.pulses ∧ c.closed = some d ∧
          d.outcome = .shortAccepted ∧ d.delivered = r.pulses * 1000 / r.k))

/-- O34. The ends of a drain (R16, R125, R106, R107, R108, R109): 8 s of an open switch complete it, which clears the abort drain's
mark, or ends the phase in DRAIN; the next queued phase then begins, here a water phase with its fill, and with an empty queue the
program ends. 90 s end it incomplete with DRAIN_SLOW, which holds a RUNNING wash. Without a drain, before the figure, or with the
switch closed for the first, nothing happens. -/
def Obligations.DrainEnds : Prop :=
  (∀ s : State, (∀ d, s.wpu.drain = some d → d.emptyMs < 8000) ∨ s.wpu.waterPresent = true →
    exec .drainEmptyCountExpiry s = .next s) ∧
  (∀ s : State, (∃ d, s.wpu.drain = some d ∧ 8000 ≤ d.emptyMs) → s.wpu.waterPresent = false → s.wsc.abortDrain = true →
    exec .drainEmptyCountExpiry s = .next { s with
      wpu := { s.wpu with drain := none, drainPump := false }, wsc := { s.wsc with abortDrain := false } }) ∧
  (∀ (a : ActivePhase) (x : ProgramContext) (s : State), (∃ d, s.wpu.drain = some d ∧ 8000 ≤ d.emptyMs) →
    s.wpu.waterPresent = false →
    s.wsc.abortDrain = false → s.wsc.active = some a → s.wsc.wash = .running → a.stage = .drain → s.cdu.mode = .run →
    s.wsc.queue = [] → s.wsc.ctx = some x →
    ∃ t, exec .drainEmptyCountExpiry s = .next t ∧ t.wpu.drain = none ∧ t.wpu.drainPump = false ∧
      t.told .phase (.phase a.record.id) ∧ t.told .program (.program .completed x.total) ∧ t.told .mode (.mode .standby) ∧
      t.cdu.mode = .standby ∧ t.wsc.wash = .idle ∧ t.wsc.active = none ∧ t.wsc.ctx = some x ∧ t.dsu.live = [] ∧
      t.dsu.ended = [] ∧ t.hcu.heat = none ∧ t.hcu.demand = none ∧ t.hcu.pumpRuns = false ∧ t.wpu.meters = s.wpu.meters ∧
      t.wpu.ledger = s.wpu.ledger) ∧
  (∀ (a : ActivePhase) (p : PhaseRecord) (rest : List PhaseRecord) (s : State), (∃ d, s.wpu.drain = some d ∧ 8000 ≤ d.emptyMs) →
    s.wpu.waterPresent = false → s.wsc.abortDrain = false → s.wsc.active = some a → s.wsc.wash = .running → a.stage = .drain →
    s.cdu.mode = .run → s.wsc.queue = p :: rest → p.kind.isWater = true → s.doorClass = .closed → s.dru.latched = true →
    s.sfu.run = none → s.wpu.grant = none → s.wpu.inhibit = false → s.wpu.fillRec = none →
    s.wpu.settings.hRaw ≤ s.wpu.settings.hT →
    ∃ t f, exec .drainEmptyCountExpiry s = .next t ∧ t.told .phase (.phase a.record.id) ∧ t.phaseBegun p rest .fill ∧
      t.wsc.ctx = s.wsc.ctx ∧ t.wsc.cause = s.wsc.cause ∧ t.cdu.mode = .run ∧ t.wpu.drain = none ∧ t.wpu.drainPump = false ∧
      t.wpu.grant = some .fill ∧ t.wpu.valveOpen = true ∧ t.wpu.fillRec = some f ∧ f.phaseId = p.id ∧ f.target = p.fill ∧
      f.pulses = 0 ∧ t.dsu.live = [] ∧ t.dsu.ended = [] ∧ t.hcu.heat = none ∧ t.hcu.demand = none ∧
      t.wpu.meters = s.wpu.meters ∧ t.wpu.ledger = s.wpu.ledger) ∧
  (∀ s : State, (∀ d, s.wpu.drain = some d → d.limitMs < 90000) → exec .drainLimitExpiry s = .next s) ∧
  (∀ s : State, (∃ d, s.wpu.drain = some d ∧ 90000 ≤ d.limitMs) → s.cdu.mode = .run → s.wsc.wash = .running → s.wsc.active ≠ none →
    ∃ t, exec .drainLimitExpiry s = .next t ∧ t.wpu.drain = none ∧ t.wpu.drainPump = false ∧ t.wsc.abortDrain = false ∧
      t.wsc.wash = .held ∧ t.wsc.cause = some (.condition .drainSlow) ∧ hasCondition t.cdu.causes .drainSlow ∧
      t.wsc.active = s.wsc.active ∧ t.wsc.queue = s.wsc.queue ∧ t.cdu.mode = .run ∧ t.wpu.meters = s.wpu.meters) ∧
  (∀ s : State, (∃ d, s.wpu.drain = some d ∧ 90000 ≤ d.limitMs) → s.cdu.mode = .standby →
    ∃ t, exec .drainLimitExpiry s = .next t ∧ State.recorded s t .drainSlow ∧
      t.wpu = { s.wpu with drain := none, drainPump := false } ∧ t.wsc = { s.wsc with abortDrain := false } ∧
      { t with lkp := s.lkp, wpu := s.wpu, wsc := s.wsc, cdu := s.cdu } = s)

/-! ## Regeneration -/

/-- O35. SET-REGEN and REGEN-NOW (R59, R45, R46, R47, R48, R50, R51): SET-REGEN clamps its figures; automatic regeneration that goes
on lists every EXHAUSTED column, A before B, and without that nothing but the settings changes. REGEN-NOW has its refusals, and
changes nothing for a REGENERATING or listed column; the first listed column's run starts, whatever ended run the record still
shows, at once with BRINE where the window is open and the inlet free, else in WAIT_WINDOW. Behind a listed head the column waits
its turn, and in SAFE it is only listed. -/
def Obligations.RegenerationIsSetAndAsked : Prop :=
  (∀ (brine slow fast window automatic : Nat) (s : State), window ≤ 1 → automatic ≤ 1 →
    ∃ (g : Machine.RegenSettings) (t : State), exec (.setRegen brine slow fast window automatic) s = .next t ∧
      t.sfu.settings = g ∧ t.lkp.sending = some ⟨0x12, .ok (.regenSettings g)⟩ ∧ t.lkp.inService = some 0x12 ∧
      clampedTo 100 600 brine g.brine ∧ clampedTo 60 600 slow g.slow ∧ clampedTo 500 3000 fast g.fast ∧
      g.window = (if window = 0 then .anytime else .quiet) ∧ (g.automatic = true ↔ automatic = 1) ∧
      (automatic = 0 ∨ s.sfu.settings.automatic = true →
        t = { s.onlyAnswered 0x12 (.ok (.regenSettings g)) with sfu := { s.sfu with settings := g } }) ∧
      (automatic = 1 → s.sfu.settings.automatic = false → ∀ c, (s.col c).state = .exhausted → t.listed c = true) ∧
      t.spt.detergent = s.spt.detergent ∧ t.wpu.meters = s.wpu.meters ∧ t.wsc = s.wsc ∧ t.hcu = s.hcu ∧ t.dru = s.dru ∧
      t.dyc = s.dyc ∧ t.dsu = s.dsu ∧ t.cdu.mode = s.cdu.mode) ∧
  (∀ (brine slow fast window automatic : Nat) (s : State), 1 < window ∨ 1 < automatic →
    exec (.setRegen brine slow fast window automatic) s = .next (s.onlyAnswered 0x12 (.refused .field))) ∧
  (∀ (n : Nat) (s : State), 1 < n → exec (.regenNow n) s = .next (s.onlyAnswered 0x28 (.refused .field))) ∧
  (∀ (c : Column) (s : State), (s.col c).state = .inService ∨ (s.col c).state = .held →
    exec (.regenNow c.code.toNat) s = .next (s.onlyAnswered 0x28 (.refused .state))) ∧
  (∀ (c : Column) (s : State), (s.col c).state = .regenerating ∨
      ((s.col c).state = .fresh ∨ (s.col c).state = .exhausted) ∧ s.listed c = true →
    exec (.regenNow c.code.toNat) s = .next (s.onlyAnswered 0x28 (.ok (.regenList s.sfu.list)))) ∧
  (∀ (c : Column) (s : State), ((s.col c).state = .fresh ∨ (s.col c).state = .exhausted) → s.sfu.list = [] →
    (∀ q, s.sfu.run = some q → q.outcome ≠ none) → s.cdu.mode ≠ .safe →
    (s.sfu.settings.window = .quiet → s.windowOpen .quiet = false → ∃ r,
      exec (.regenNow c.code.toNat) s = .next { s.onlyAnswered 0x28 (.ok (.regenList [⟨c, false⟩])) with
        sfu := { s.sfu with list := [⟨c, false⟩], run := some r } } ∧
      r.column = c ∧ r.stage = .waitWindow ∧ r.brine = s.sfu.settings.brine ∧ r.slow = s.sfu.settings.slow ∧
      r.fast = s.sfu.settings.fast ∧ r.outcome = none) ∧
    (s.sfu.settings.window = .anytime → s.wpu.inhibit = false → s.wpu.grant = none →
      ∃ t r, exec (.regenNow c.code.toNat) s = .next t ∧ t.sfu.list = [⟨c, false⟩] ∧ t.sfu.run = some r ∧
        r.stage = .running .brine ∧ r.column = c ∧ r.stageK = some s.wpu.settings.k ∧ r.stagePulses = some 0 ∧
        r.outcome = none ∧ (∀ n, r.targetPulses = some n → r.brine * s.wpu.settings.k ≤ n * 1000) ∧ r.targetPulses ≠ none ∧
        t.wpu.grant = some .regen ∧ t.wpu.valveOpen = true ∧ t.wpu.window = 0 ∧ t.wpu.meters = s.wpu.meters ∧
        t.sfu.selector = some c ∧ t.sfu.brineValve = true ∧ (t.col c).state = .regenerating ∧ (t.col c).remaining = 0 ∧
        t.col c.other = s.col c.other ∧ t.told .column (.column c .regenerating) ∧
        r.saltEmpty = decide (s.spt.salt.state = .empty) ∧
        (s.spt.salt.state = .empty → State.recorded s t .saltEmpty) ∧
        (s.spt.salt.state ≠ .empty → t.cdu = s.cdu) ∧ t.wsc = s.wsc ∧ t.hcu = s.hcu ∧ t.dsu = s.dsu ∧ t.spt = s.spt)) ∧
  (∀ (c : Column) (e : RegenEntry) (s : State), ((s.col c).state = .fresh ∨ (s.col c).state = .exhausted) →
    s.sfu.list = [e] → e.column = c.other →
    (∀ q, s.sfu.run = some q → q.outcome = none →
      exec (.regenNow c.code.toNat) s = .next { s.onlyAnswered 0x28 (.ok (.regenList [e, ⟨c, false⟩])) with
        sfu := { s.sfu with list := [e, ⟨c, false⟩] } }) ∧
    (s.cdu.mode = .safe →
      exec (.regenNow c.code.toNat) s = .next { s.onlyAnswered 0x28 (.ok (.regenList [e, ⟨c, false⟩])) with
        sfu := { s.sfu with list := [e, ⟨c, false⟩] } })) ∧
  (∀ (c : Column) (s : State), ((s.col c).state = .fresh ∨ (s.col c).state = .exhausted) → s.sfu.list = [] → s.cdu.mode = .safe →
    exec (.regenNow c.code.toNat) s = .next { s.onlyAnswered 0x28 (.ok (.regenList [⟨c, false⟩])) with
      sfu := { s.sfu with list := [⟨c, false⟩] } }) ∧
  (∀ (brine slow fast window : Nat) (s : State), window ≤ 1 → s.sfu.settings.automatic = false → s.sfu.list = [] →
    (∀ q, s.sfu.run = some q → q.outcome ≠ none) → s.cdu.mode ≠ .safe → s.wpu.inhibit = false →
    (s.sfu.colA.state = .exhausted → s.sfu.colB.state = .exhausted →
      ∃ t q, exec (.setRegen brine slow fast window 1) s = .next t ∧ t.sfu.list = [⟨.a, false⟩, ⟨.b, false⟩] ∧
        t.sfu.run = some q ∧ q.column = .a) ∧
    (∀ c : Column, (s.col c).state = .exhausted → (s.col c.other).state ≠ .exhausted →
      ∃ t q, exec (.setRegen brine slow fast window 1) s = .next t ∧ t.sfu.list = [⟨c, false⟩] ∧ t.sfu.run = some q ∧
        q.column = c))

/-- O36. The stages of a regeneration run (R50 to R56, R65): BRINE and FAST_RINSE end at the pulse that reaches their target,
SLOW_RINSE at its captured time. BRINE charges the salt of its pulses; with no other claim waiting the next stage begins at once
with its own K and target; FAST_RINSE restores the column, a quarter of it after a brine without salt. A SLOW_RINSE_END outside
SLOW_RINSE or before its time does nothing. The stage limit, 120 s in BRINE and 180 s in FAST_RINSE, ends the run FAULT: the column
is HELD with REGEN_FAULT and leaves the list, the salt of a BRINE is charged, the inlet is released; before it, or in any other
stage, nothing happens. -/
def Obligations.RegenerationStagesEnd : Prop :=
  (∀ (a b : Bool) (r : RunRecord) (n k : Nat) (s : State), s.wpu.grant = some .regen → s.sfu.run = some r → r.outcome = none →
    r.stage = .running .brine → r.stagePulses = some n → r.stageK = some k → 0 < k → r.targetPulses = some (n + 1) →
    s.wpu.inhibit = false → s.wpu.waitFill = none → s.wpu.waitRegen = none → s.wpu.waitTest = none →
    ∃ t q, exec (.flowPulse a b) s = .next t ∧ t.sfu.run = some q ∧ q.stage = .running .slowRinse ∧
      q.brineMl = some ((n + 1) * 1000 / k) ∧ q.salt = some ((n + 1) * 1000 / k * 3 / 10) ∧ q.stagePulses = some 0 ∧
      q.stageK = some s.wpu.settings.k ∧ q.targetPulses = none ∧ q.column = r.column ∧ t.wpu.grant = some .regen ∧
      t.wpu.valveOpen = true ∧ t.sfu.brineValve = false ∧ t.sfu.restrictor = true ∧ t.sfu.selector = some r.column ∧
      (s.spt.salt.tracked = true → t.spt.salt.estimate = s.spt.salt.estimate - (n + 1) * 1000 / k * 3 / 10) ∧
      (s.spt.salt.tracked = false → t.spt.salt = s.spt.salt) ∧ t.sfu.list = s.sfu.list ∧ t.cdu = s.cdu) ∧
  (∀ (r : RunRecord) (s : State), s.wpu.grant = some .regen → s.sfu.run = some r → r.outcome = none →
    r.stage = .running .slowRinse → r.slow * 1000 ≤ r.stageMs → s.wpu.inhibit = false → s.wpu.waitFill = none →
      s.wpu.waitRegen = none →
    s.wpu.waitTest = none →
    ∃ t q n, exec .slowRinseEnd s = .next t ∧ t.sfu.run = some q ∧ q.stage = .running .fastRinse ∧ q.stagePulses = some 0 ∧
      q.stageK = some s.wpu.settings.k ∧ q.targetPulses = some n ∧ r.fast * s.wpu.settings.k ≤ n * 1000 ∧
      n * 1000 < r.fast * s.wpu.settings.k + 1000 ∧ t.wpu.grant = some .regen ∧ t.wpu.valveOpen = true ∧
      t.sfu.restrictor = false ∧ t.sfu.brineValve = false ∧ t.sfu.selector = some r.column ∧
      t.sfu.colA = s.sfu.colA ∧ t.sfu.colB = s.sfu.colB ∧ t.spt = s.spt ∧ t.cdu = s.cdu ∧ t.lkp = s.lkp ∧ t.wsc = s.wsc) ∧
  (∀ s : State, (∀ r, s.sfu.run = some r → r.outcome ≠ none ∨ r.stage ≠ .running .slowRinse ∨ r.stageMs < r.slow * 1000) →
    exec .slowRinseEnd s = .next s) ∧
  (∀ (a b : Bool) (r : RunRecord) (n : Nat) (e : RegenEntry) (s : State), s.wpu.grant = some .regen → s.sfu.run = some r →
    r.outcome = none → r.stage = .running .fastRinse → r.stagePulses = some n → r.targetPulses = some (n + 1) →
    s.wpu.waitFill = none → s.wpu.waitRegen = none → s.wpu.waitTest = none → s.sfu.list = [e] →
    (s.col r.column).state = .regenerating →
    ∃ t q, exec (.flowPulse a b) s = .next t ∧ t.sfu.run = some q ∧ q.stage = .done ∧ q.outcome = some .done ∧
      (t.col r.column).state = .fresh ∧
      (t.col r.column).remaining = (if r.saltEmpty = true then (s.col r.column).nominal / 4 else (s.col r.column).nominal) ∧
      (t.col r.column).nominal = (s.col r.column).nominal ∧ (t.col r.column).residue = 0 ∧ (t.col r.column).btRun = 0 ∧
      (t.col r.column).regenCount = min 65535 ((s.col r.column).regenCount + 1) ∧
      t.col r.column.other = s.col r.column.other ∧ t.sfu.list = [] ∧ t.wpu.grant = none ∧ t.wpu.valveOpen = false ∧
      t.sfu.selector = none ∧ t.told .regen (.regen r.column .done) ∧ t.told .column (.column r.column .fresh) ∧
      t.cdu = s.cdu ∧ t.spt = s.spt) ∧
  (∀ (r : RunRecord) (e : RegenEntry) (s : State), s.wpu.grant = some .regen → s.sfu.run = some r → r.outcome = none →
    r.stage = .running .brine ∧ 120000 ≤ r.stageMs ∨ r.stage = .running .fastRinse ∧ 180000 ≤ r.stageMs → s.sfu.list = [e] →
      s.wpu.waitFill = none →
    s.wpu.waitRegen = none → s.wpu.waitTest = none → (s.col r.column).state = .regenerating →
    ∃ t q, exec .regenStageLimitExpiry s = .next t ∧ t.sfu.run = some q ∧ q.outcome = some .fault ∧ q.column = r.column ∧
      (t.col r.column).state = .held ∧ (t.col r.column).holdReason = some .regenFault ∧
      (t.col r.column).remaining = (s.col r.column).remaining ∧ t.col r.column.other = s.col r.column.other ∧
      t.sfu.list = [] ∧ t.wpu.grant = none ∧ t.wpu.valveOpen = false ∧ t.sfu.brineValve = false ∧ t.sfu.selector = none ∧
      State.recorded s t .regenFault ∧ t.told .regen (.regen r.column .fault) ∧ t.told .column (.column r.column .held) ∧
      (r.stage = .running .fastRinse → t.spt = s.spt) ∧
      (∀ n k, r.stage = .running .brine → r.stagePulses = some n → r.stageK = some k → s.spt.salt.tracked = true →
        t.spt.salt.estimate = s.spt.salt.estimate - n * 1000 / k * 3 / 10) ∧
      t.cdu.mode = s.cdu.mode ∧ t.wsc = s.wsc ∧ t.wpu.meters = s.wpu.meters) ∧
  (∀ s : State, (∀ r, s.sfu.run = some r → r.outcome ≠ none ∨
      (r.stage = .running .brine → r.stageMs < 120000) ∧ (r.stage = .running .fastRinse → r.stageMs < 180000)) →
    exec .regenStageLimitExpiry s = .next s)

/-- O37. A regeneration run across modes (R48, R49, R57, R58): SAFE entry ends a run that has left WAIT_WINDOW ABORTED, with the
salt of a BRINE charged, the column EXHAUSTED where it was REGENERATING and the head marked for restart; a run in WAIT_WINDOW stays.
LEAVE-SAFE starts the head's run again, a marked one past its window; that the inhibit is lifted before that start, so that its
first claim is granted in the same step, is read from R185 (log 11). A host hold of its column cancels a run that waits for BRINE. A
QUIET run waits through a wash, and begins when the program is given up or its DRY phase starts. -/
def Obligations.RegenerationFollowsTheModes : Prop :=
  (∀ (r : RunRecord) (c : Column) (rest : List RegenEntry) (s : State), s.cdu.mode ≠ .safe → s.wpu.overfillClosed = false →
    s.sfu.run = some r → r.outcome = none → r.column = c → s.sfu.list = ⟨c, false⟩ :: rest →
    r.stage ≠ .waitWindow → r.stage ≠ .done →
    ∃ t q, exec (.overfillSwitchChange true) s = .next t ∧ t.sfu.run = some q ∧ q.outcome = some .aborted ∧ q.column = c ∧
      q.stage = r.stage ∧ t.sfu.list = ⟨c, true⟩ :: rest ∧ t.told .regen (.regen c .aborted) ∧ t.wpu.grant = none ∧
      t.wpu.waitRegen = none ∧ t.sfu.brineValve = false ∧ t.sfu.restrictor = false ∧ t.sfu.selector = none ∧
      ((s.col c).state = .regenerating → (s.col c).holdPending = false → (t.col c).state = .exhausted ∧
        (t.col c).remaining = 0 ∧ (t.col c).nominal = (s.col c).nominal) ∧
      ((s.col c).state ≠ .regenerating → (s.col c).holdPending = false → t.col c = s.col c) ∧
      (r.stage ≠ .running .brine → t.spt = s.spt) ∧
      (∀ n k, r.stage = .running .brine → r.stagePulses = some n → r.stageK = some k →
        q.brineMl = some (n * 1000 / k) ∧ q.salt = some (n * 1000 / k * 3 / 10) ∧
        (s.spt.salt.tracked = true → t.spt.salt.estimate = s.spt.salt.estimate - n * 1000 / k * 3 / 10))) ∧
  (∀ (r : RunRecord) (s : State), s.cdu.mode ≠ .safe → s.wpu.overfillClosed = false → s.sfu.run = some r → r.outcome = none →
    r.stage = .waitWindow →
    ∃ t, exec (.overfillSwitchChange true) s = .next t ∧ t.cdu.mode = .safe ∧ t.sfu.run = some r ∧ t.sfu.list = s.sfu.list ∧
      t.spt = s.spt) ∧
  (∀ (c : Column) (restart : Bool) (rest : List RegenEntry) (s : State), s.cdu.mode = .safe →
    (∀ x ∈ s.cdu.safeSet, s.activeTest x = false) → s.wpu.grant = none → s.wsc.wash = .idle →
    (∀ r, s.sfu.run = some r → r.outcome ≠ none) → s.sfu.list = ⟨c, restart⟩ :: rest →
    ∃ t q, exec .leaveSafe s = .next t ∧ t.cdu.mode = .standby ∧ t.sfu.list = ⟨c, false⟩ :: rest ∧ t.sfu.run = some q ∧
      q.column = c ∧ q.restarted = restart ∧ q.stage = .running .brine ∧ q.outcome = none ∧ t.wpu.grant = some .regen ∧
      t.wpu.valveOpen = true ∧ (t.col c).state = .regenerating ∧ (t.col c).remaining = 0) ∧
  (∀ (c : Column) (rest : List RegenEntry) (s : State), s.cdu.mode = .safe →
    (∀ x ∈ s.cdu.safeSet, s.activeTest x = false) → s.wpu.grant = none → s.wsc.wash = .held →
    (∀ a, s.wsc.active = some a → a.record.kind ≠ .dry) → (∀ r, s.sfu.run = some r → r.outcome ≠ none) →
    s.sfu.settings.window = .quiet →
    (s.sfu.list = ⟨c, true⟩ :: rest →
      ∃ t q, exec .leaveSafe s = .next t ∧ t.cdu.mode = .run ∧ t.sfu.run = some q ∧ q.stage = .running .brine ∧
        q.restarted = true ∧ t.sfu.list = ⟨c, false⟩ :: rest) ∧
    (s.sfu.list = ⟨c, false⟩ :: rest →
      ∃ t q, exec .leaveSafe s = .next t ∧ t.cdu.mode = .run ∧ t.sfu.run = some q ∧ q.stage = .waitWindow ∧ t.wpu.grant = none ∧
        t.col c = s.col c)) ∧
  (∀ (c : Column) (r : RunRecord) (nominal remaining : Nat) (s : State), s.sfu.run = some r → r.outcome = none →
    r.column = c → r.stage = .waitWindow ∨ r.stage = .waitInlet .brine → s.sfu.list = [⟨c, false⟩] →
    (s.col c).state = .fresh ∨ (s.col c).state = .exhausted → s.grantedRoute ≠ some c →
    ∃ t, exec (.setColumn c.code.toNat nominal remaining 1) s = .next t ∧ (t.col c).state = .held ∧
      (t.col c).holdReason = some .host ∧ (t.col c).residue = (s.col c).residue ∧ t.sfu.list = [] ∧
      t.sfu.run = some { r with outcome := some .cancelled } ∧ t.told .regen (.regen c .cancelled) ∧
      t.wpu = { s.wpu with waitRegen := none } ∧ t.col c.other = s.col c.other) ∧
  (∀ (r : RunRecord) (a : ActivePhase) (s : State), s.sfu.run = some r → r.outcome = none → r.stage = .waitWindow →
    r.window = .quiet → s.cdu.mode = .run → s.wsc.active = some a → s.wpu.grant = none → s.wpu.inhibit = false →
    (a.stage ≠ .fill → s.wpu.fillRec = none → s.wpu.waitFill = none →
      ∃ t q, exec .abort s = .next t ∧ t.cdu.mode = .standby ∧ t.sfu.run = some q ∧ q.stage = .running .brine ∧
        t.wpu.grant = some .regen ∧ t.wpu.valveOpen = true ∧ (t.col r.column).state = .regenerating) ∧
    (a.record.kind ≠ .dry → s.wsc.wash = .running → a.stage ≠ .done →
      ∃ t, exec .pause s = .next t ∧ t.sfu.run = some r ∧ t.wpu.grant = none) ∧
    (∀ p rest, a.stage = .drain → s.wsc.wash = .running → (∃ d, s.wpu.drain = some d ∧ 8000 ≤ d.emptyMs) →
      s.wpu.waterPresent = false →
      s.wsc.abortDrain = false → s.wsc.queue = p :: rest → p.kind = .dry → s.doorClass = .closed →
      ∃ t q, exec .drainEmptyCountExpiry s = .next t ∧ t.wsc.queue = rest ∧ t.sfu.run = some q ∧
        q.stage = .running .brine ∧ t.wpu.grant = some .regen ∧ (t.col r.column).state = .regenerating ∧
        ∃ d, t.dyc.run = some d ∧ ∀ x, s.wsc.ctx = some x → p.dryingIn x.shortfall s.dyc.settings d))

/-! ## Reservoirs -/

/-- O38. The cap and low switches (R63, R64, R68 to R72): each settled change writes its entry by its rule and no other, and SUPPLY
attention is set exactly where the derived state changed. That a level which the field has already changes nothing is the model's
choice (log 19). -/
def Obligations.ReservoirSwitchesSettle : Prop :=
  ∀ (e : Entry) (s : State),
    ((s.entry e).capOpen = true → exec (.capOpen e) s = .next s) ∧
    ((s.entry e).capOpen = false → exec (.capClose e) s = .next s) ∧
    ((s.entry e).low = true → exec (.lowSwitchLow e) s = .next s) ∧
    ((s.entry e).low = false → exec (.lowSwitchNotLow e) s = .next s) ∧
    (∀ (cmd : Instr) (r : SupplyEntry),
      (cmd = .capOpen e ∧ (s.entry e).capOpen = false ∧ r = { s.entry e with capOpen := true }) ∨
      (cmd = .capClose e ∧ (s.entry e).capOpen = true ∧ (s.entry e).low = false ∧
        r = { s.entry e with
          capOpen := false, estimate := (s.entry e).capacity, tracked := true
          refills := min 255 ((s.entry e).refills + 1) }) ∨
      (cmd = .capClose e ∧ (s.entry e).capOpen = true ∧ (s.entry e).low = true ∧
        r = { s.entry e with
          capOpen := false
          estimate := if (s.entry e).tracked = true then min (s.entry e).estimate (s.entry e).lowMark
            else (s.entry e).estimate }) ∨
      (cmd = .lowSwitchLow e ∧ (s.entry e).low = false ∧
        r = { s.entry e with
          low := true, tracked := true
          estimate := if (s.entry e).tracked = true then min (s.entry e).estimate (s.entry e).lowMark
            else (s.entry e).lowMark }) ∨
      (cmd = .lowSwitchNotLow e ∧ (s.entry e).low = true ∧ r = { s.entry e with low := false }) →
      ∃ t, exec cmd s = .next t ∧ t.entry e = r ∧ (∀ x, x ≠ e → t.entry x = s.entry x) ∧
        (r.state ≠ (s.entry e).state → t.told .supply (.supply e r.state)) ∧ s.sourcesKeptBut t .supply ∧
        (r.state = (s.entry e).state → t.lkp = s.lkp) ∧ { t with lkp := s.lkp, spt := s.spt } = s)

/-! ## Dosing -/

/-- O39. A dose's computation (R78 to R86, R93, R110, R112): the fill's close asks for detergent and additive, a HOLD that begins
for rinse aid, and RESUME computes a marked record again. The record has its factors, dose and stroke counts by R79 to R83 from the
closed fill and the tables, the class and the entry as they stand. It strokes; one that plans no strokes ends at once; a plan cut
short raises DOSE_SHORT, whose trap holds the wash with the record marked, and a rinse-aid record cut short sets the shortfall mark.
Of two records the detergent is first, and the second of two short ones is answered HELD and marked too. -/
def Obligations.DosesAreComputed : Prop :=
  (∀ (compA compB : Bool) (r : FillRecord) (b : Blend) (a : ActivePhase) (g : Agent) (base : Nat) (x : ProgramContext) (s : State),
    s.wpu.grant = some .fill → s.wpu.fillRec = some r → s.sfu.blend = some b → b.nb = 32 → b.service = none →
    r.targetPulses ≤ r.pulses + 1 → s.wpu.waitFill = none → s.wpu.waitRegen = none → s.wpu.waitTest = none →
    s.cdu.mode = .run → s.wsc.active = some a → s.wsc.wash = .running → a.stage = .fill → 0 < a.target → s.wsc.ctx = some x →
    s.dsu.live = [] → s.dsu.ended = [] → s.dsu.curve.points.toList.Pairwise (fun p q => p.1 < q.1) →
    (g = .detergent ∧ a.record.detergent = some base ∧ a.record.additive = none ∨
      g = .additive ∧ a.record.additive = some base ∧ a.record.detergent = none) →
    ∃ t c d n, exec (.flowPulse compA compB) s = .next t ∧ t.wpu.ledger.head? = some c ∧ c.closed = some d ∧ n.agent = g ∧
      n.phaseId = a.record.id ∧ n.base = base ∧ n.volume = d.delivered ∧ n.hardness = d.hardness ∧ n.vRef = r.vRef ∧
      n.done = 0 ∧ n.misses = 0 ∧ n.recompute = false ∧ n.computedIn s ∧ s.doseTaken t n ∧ t.wsc.active =
        some { a with stage := .heat, detergentAsked := true, filled := true }) ∧
  (∀ (compA compB : Bool) (r : FillRecord) (b : Blend) (a : ActivePhase) (det add : Nat) (x : ProgramContext) (s : State),
    s.wpu.grant = some .fill → s.wpu.fillRec = some r → s.sfu.blend = some b → b.nb = 32 → b.service = none →
    r.targetPulses ≤ r.pulses + 1 → s.wpu.waitFill = none → s.wpu.waitRegen = none → s.wpu.waitTest = none →
    s.cdu.mode = .run → s.wsc.active = some a → s.wsc.wash = .running → a.stage = .fill → 0 < a.target → s.wsc.ctx = some x →
    s.dsu.live = [] → s.dsu.ended = [] → s.dsu.curve.points.toList.Pairwise (fun p q => p.1 < q.1) →
    a.record.detergent = some det → a.record.additive = some add → 0 < s.spt.detergent.stroke → 0 < s.spt.additive.stroke →
    0 < det → 0 < add →
    ∃ (t : State) (n m : DoseRecord), exec (.flowPulse compA compB) s = .next t ∧ n.agent = .detergent ∧ n.base = det ∧
      m.agent = .additive ∧
      m.base = add ∧ n.computedIn s ∧ m.computedIn s ∧
      (s.spt.detergent.tracked = false → s.spt.additive.tracked = false → t.wsc.wash = .running ∧ t.cdu = s.cdu ∧
        t.dsu.ended = [] ∧ t.dsu.live = [{ n with state := .stroking }, { m with state := .waiting }]) ∧
      (s.spt.detergent.fallsShort n.full → hasCondition s.cdu.traps .doseShort → t.wsc.wash = .held ∧
        t.wsc.cause = some (.condition .doseShort) ∧ t.dsu.ended = [] ∧
        (s.spt.additive.tracked = false →
          t.dsu.live = [{ n with state := .suspended, recompute := true }, { m with state := .suspended }]) ∧
        (s.spt.additive.fallsShort m.full →
          t.dsu.live =
            [{ n with state := .suspended, recompute := true }, { m with state := .suspended, recompute := true }]))) ∧
  (∀ (reading : Int) (q : HeatRequest) (a : ActivePhase) (base : Nat) (c : FillRecord) (rest : List FillRecord)
    (x : ProgramContext) (s : State), 0 ≤ reading → reading < 850 → s.hcu.heat = some q → q.mode = .heat → q.reached = false →
    q.target - 5 ≤ reading → s.cdu.mode = .run → s.wsc.active = some a → s.wsc.wash = .running → a.stage = .heat →
    a.record.rinse = some base → s.wpu.ledger = c :: rest → s.wsc.ctx = some x → s.dsu.live = [] → s.dsu.ended = [] →
    ∃ t n y, exec (.temperatureSample reading) s = .next t ∧ n.agent = .rinseAid ∧ n.phaseId = a.record.id ∧ n.base = base ∧
      n.volume = c.pulses * 1000 / c.k ∧ n.vRef = c.vRef ∧ n.done = 0 ∧ n.misses = 0 ∧ n.recompute = false ∧
      n.computedIn s ∧ s.doseTaken t n ∧ t.wsc.active = some { a with stage := .hold, rinseAsked := true } ∧
      t.wsc.ctx = some y ∧ (n.planned < n.full → y.shortfall = true) ∧ (n.planned = n.full → y = x)) ∧
  (∀ (a : ActivePhase) (r : DoseRecord) (x : ProgramContext) (s : State), s.wsc.wash = .held → s.cdu.mode = .run →
    s.wsc.active = some a → a.stage = .heat → s.doorClass = .closed → s.dru.latched = true → s.cdu.causes = 0 →
    s.wsc.ctx = some x → s.dsu.live = [r] → r.recompute = true → s.dsu.curve.points.toList.Pairwise (fun p q => p.1 < q.1) →
    ∃ t n, exec .resume s = .next t ∧ t.lkp.sending = some ⟨0x24, .ok .empty⟩ ∧ n.agent = r.agent ∧ n.phaseId = r.phaseId ∧
      n.base = r.base ∧ n.volume = r.volume ∧ n.hardness = r.hardness ∧ n.vRef = r.vRef ∧ n.done = r.done ∧ n.misses = 0 ∧
      n.recompute = false ∧ n.computedIn s ∧ s.doseTaken t n ∧ t.wsc.active = s.wsc.active ∧
      (t.wsc.wash = .running → t.hcu.heat = some ⟨.heat, a.target, false, none⟩))

/-- O40. STROKE_START and STROKE_DRIVE_OFF (R88, R97, R98): with no stroke in flight and 500 ms since the last drive start, the
front record gets a stroke where it is STROKING with strokes left, and without live records the running test does; else the start
waits. The end of a drive, 120 ms after its start, only switches the pumps off. -/
def Obligations.StrokesAreDriven : Prop :=
  (∀ s : State, exec .strokeDriveOff s =
    .next { s with dsu := { s.dsu with drive := if 120 ≤ s.dsu.sinceDriveMs then none else s.dsu.drive } }) ∧
  (∀ s : State, s.dsu.flight ≠ none ∨ s.dsu.sinceDriveMs < 500 → exec .strokeStart s = .next s) ∧
  (∀ (r : DoseRecord) (rest : List DoseRecord) (s : State), s.dsu.flight = none → 500 ≤ s.dsu.sinceDriveMs →
    s.dsu.live = r :: rest →
    (r.state = .stroking → r.done < r.planned →
      exec .strokeStart s = .next { s with dsu := { s.dsu with
        flight := some ⟨r.agent, .record, false⟩, drive := some r.agent, sinceDriveMs := 0 } }) ∧
    (r.state ≠ .stroking ∨ r.planned ≤ r.done → exec .strokeStart s = .next s)) ∧
  (∀ (q : DoseTest) (s : State), s.dsu.flight = none → 500 ≤ s.dsu.sinceDriveMs → s.dsu.live = [] →
    s.dsu.testRec = some q →
    (q.running = true → q.driven < q.asked →
      ∃ t, exec .strokeStart s = .next t ∧
        t.dsu = { s.dsu with
          flight := some ⟨q.agent, .test, false⟩, drive := some q.agent, sinceDriveMs := 0
          testRec := some { q with driven := q.driven + 1 } } ∧
        t.testEntry q.agent.actuator = { s.testEntry q.agent.actuator with driven := q.driven + 1, sensed := q.sensed } ∧
        (∀ b, b ≠ q.agent.actuator → t.testEntry b = s.testEntry b) ∧ { t with dsu := s.dsu, cdu := s.cdu } = s) ∧
    (q.running = false ∨ q.asked ≤ q.driven → exec .strokeStart s = .next s)) ∧
  (∀ s : State, s.dsu.live = [] → s.dsu.testRec = none → exec .strokeStart s = .next s)

/-- O41. STROKE_SENSOR_PULSE and SENSE_WINDOW_CLOSE (R89, R90, R91, R86, R66, R97, R114, R107, R176, R177): the first report in the
window counts a stroke, clears the misses and lowers the agent's entry by its stroke volume; at the planned count the record ends
DONE, or SHORT where the plan was below the full count, and the next record strokes, but in a HELD wash it stays suspended. A window
of 320 ms without a report counts a miss; the third in a row raises DOSE_PUMP_FAULT, whose trap holds the wash and whose default
ends the record FAULTED. The end of the last live record, by either, lets a HOLD or SENSE whose own work is done leave for DRAIN or
the phase end. While the wash is HELD the hold stays as it is: the default still ends the suspended record, and with the trap
enabled the record stays. A sensed stroke of a test lowers the entry and counts in the test alone, and its last window ends it. -/
def Obligations.StrokesAreSensedOrMissed : Prop :=
  (∀ (g : Agent) (s : State), (∀ f, s.dsu.flight = some f → f.agent ≠ g ∨ f.sensed = true) →
    exec (.strokeSensorPulse g) s = .next s) ∧
  (∀ (r : DoseRecord) (rest : List DoseRecord) (s : State), s.dsu.flight = some ⟨r.agent, .record, false⟩ →
    s.dsu.live = r :: rest → (∀ x ∈ rest, x.agent ≠ r.agent) →
    ∃ t, exec (.strokeSensorPulse r.agent) s = .next t ∧
      ((s.entry r.agent.entry).tracked = true →
        t.entry r.agent.entry = { s.entry r.agent.entry with
          estimate := (s.entry r.agent.entry).estimate - (s.entry r.agent.entry).stroke }) ∧
      ((s.entry r.agent.entry).tracked = false → t.spt = s.spt) ∧
      (∀ e, e ≠ r.agent.entry → t.entry e = s.entry e) ∧
      (r.done + 1 ≠ r.planned →
        t.dsu = { s.dsu with
          flight := some ⟨r.agent, .record, true⟩, live := { r with done := r.done + 1, misses := 0 } :: rest } ∧
        { t with lkp := s.lkp, spt := s.spt, dsu := s.dsu } = s) ∧
      (∀ x more, rest = x :: more → s.wsc.wash = .running → r.done + 1 = r.planned →
        t.dsu = { s.dsu with
          flight := none
          live := { x with state := .stroking } :: more.map fun y => { y with state := .waiting }
          ended := s.dsu.ended ++ [{ r with
            done := r.planned, misses := 0, state := if r.planned = r.full then .done else .short }] } ∧
        t.told .dose (.dose r.agent (if r.planned = r.full then .done else .short)) ∧
        t.wsc = (if r.agent = .rinseAid ∧ r.planned ≠ r.full then
          { s.wsc with ctx := s.wsc.ctx.map fun c => { c with shortfall := true } } else s.wsc) ∧
        { t with lkp := s.lkp, spt := s.spt, dsu := s.dsu, wsc := s.wsc } = s)) ∧
  (∀ s : State, s.dsu.flight = none ∨ s.dsu.sinceDriveMs < 320 → exec .senseWindowClose s = .next s) ∧
  (∀ (f : Flight) (s : State), 320 ≤ s.dsu.sinceDriveMs → s.dsu.flight = some f → f.serves = .nobody ∨ f.serves = .record ∧
    f.sensed = true →
    exec .senseWindowClose s = .next { s with dsu := { s.dsu with flight := none } }) ∧
  (∀ (r : DoseRecord) (rest : List DoseRecord) (s : State), s.dsu.flight = some ⟨r.agent, .record, false⟩ →
    s.dsu.live = r :: rest → (∀ x ∈ rest, x.agent ≠ r.agent) → 320 ≤ s.dsu.sinceDriveMs →
    (r.misses < 2 →
      exec .senseWindowClose s = .next { s with dsu := { s.dsu with
        flight := none, live := { r with misses := r.misses + 1 } :: rest } }) ∧
    (∀ a x more, r.misses = 2 → s.cdu.mode = .run → s.wsc.wash = .running → s.wsc.active = some a → s.wpu.waitRegen = none →
      rest = x :: more →
      ∃ t, exec .senseWindowClose s = .next t ∧ State.recorded s t .dosePumpFault ∧ t.cdu.mode = .run ∧
        t.dsu.flight = none ∧ t.wpu.meters = s.wpu.meters ∧
        (hasCondition s.cdu.traps .dosePumpFault →
          t.wsc.wash = .held ∧ t.wsc.cause = some (.condition .dosePumpFault) ∧ t.dsu.ended = s.dsu.ended ∧
          t.dsu.live = ({ r with misses := 3 } :: rest).map fun y => { y with state := .suspended }) ∧
        (¬hasCondition s.cdu.traps .dosePumpFault →
          t.wsc.wash = .running ∧ t.told .dose (.dose r.agent .faulted) ∧
          t.dsu.ended = s.dsu.ended ++ [{ r with misses := 3, state := .faulted }] ∧
          t.dsu.live = { x with state := .stroking } :: more.map (fun y => { y with state := .waiting }) ∧
          t.wpu = s.wpu ∧ t.hcu = s.hcu ∧ t.spt = s.spt))) ∧
  (∀ (r : DoseRecord) (rest : List DoseRecord) (s : State), s.dsu.flight = some ⟨r.agent, .record, false⟩ →
    s.dsu.live = r :: rest → (∀ x ∈ rest, x.agent ≠ r.agent) → r.misses = 2 → s.cdu.mode = .run → s.wsc.wash = .held →
    320 ≤ s.dsu.sinceDriveMs →
    ∃ t, exec .senseWindowClose s = .next t ∧ State.recorded s t .dosePumpFault ∧ t.cdu.mode = .run ∧ t.dsu.flight = none ∧
      t.wsc.wash = .held ∧ t.wsc.cause = s.wsc.cause ∧ t.wsc.active = s.wsc.active ∧ t.wpu = s.wpu ∧ t.hcu = s.hcu ∧
      t.spt = s.spt ∧
      (hasCondition s.cdu.traps .dosePumpFault → t.dsu.live = { r with misses := 3 } :: rest ∧ t.dsu.ended = s.dsu.ended) ∧
      (¬hasCondition s.cdu.traps .dosePumpFault → t.told .dose (.dose r.agent .faulted) ∧
        t.dsu.ended = s.dsu.ended ++ [{ r with misses := 3, state := .faulted }] ∧
        t.dsu.live = rest.map fun y => { y with state := .suspended })) ∧
  (∀ (q : DoseTest) (b : Bool) (s : State), s.dsu.flight = some ⟨q.agent, .test, b⟩ → s.dsu.testRec = some q → q.running = true →
    q.asked ≤ q.driven → s.testing q.agent.actuator = true → 320 ≤ s.dsu.sinceDriveMs →
    ∃ t, exec .senseWindowClose s = .next t ∧
      t.dsu = { s.dsu with flight := none, testRec := some { q with running := false } } ∧
      t.testEntry q.agent.actuator =
        { s.testEntry q.agent.actuator with running := false, outcome := some .completed } ∧
      (∀ x, x ≠ q.agent.actuator → t.testEntry x = s.testEntry x) ∧ { t with dsu := s.dsu, cdu := s.cdu } = s) ∧
  (∀ (cmd : Instr) (r : DoseRecord) (a : ActivePhase) (x : ProgramContext) (s : State),
    s.dsu.flight = some ⟨r.agent, .record, false⟩ → s.dsu.live = [r] → s.cdu.mode = .run → s.wsc.wash = .running →
    s.wsc.active = some a → s.wsc.ctx = some x →
    cmd = .strokeSensorPulse r.agent ∧ r.done + 1 = r.planned ∨
      cmd = .senseWindowClose ∧ 320 ≤ s.dsu.sinceDriveMs ∧ r.misses = 2 ∧ ¬hasCondition s.cdu.traps .dosePumpFault →
    (a.stage = .hold ∧ a.holdEnded = true ∧ a.record.soilSense = false ∨ a.stage = .sense ∧ a.classDone = true →
      (a.record.drainAtEnd = true →
        ∃ t, exec cmd s = .next t ∧ t.wsc.active = some { a with stage := .drain } ∧ t.wsc.wash = .running ∧
          t.wpu = { s.wpu with drain := some ⟨0, 0⟩, drainPump := true } ∧ t.dsu.live = [] ∧ t.dsu.flight = none ∧
          t.hcu.heat = none ∧ t.hcu.demand = none ∧ t.hcu.pumpRuns = false) ∧
      (a.record.drainAtEnd = false → s.wsc.queue = [] →
        ∃ t, exec cmd s = .next t ∧ t.told .phase (.phase a.record.id) ∧ t.programEnded x.total ∧ t.dsu.live = [] ∧
          t.dsu.ended = [] ∧ t.hcu.heat = none ∧ t.hcu.demand = none) ∧
      (∀ p rest, a.record.drainAtEnd = false → s.wsc.queue = p :: rest → p.kind = .drain → s.doorClass = .closed →
        s.dru.latched = true → s.sfu.run = none →
        ∃ t, exec cmd s = .next t ∧ t.told .phase (.phase a.record.id) ∧ t.phaseBegun p rest .drain ∧ t.dsu.live = [] ∧
          t.dsu.ended = [] ∧ t.wpu = { s.wpu with drain := some ⟨0, 0⟩, drainPump := true })) ∧
    (a.stage = .heat ∨ a.stage = .hold ∧ (a.holdEnded = false ∨ a.record.soilSense = true) ∨
        a.stage = .sense ∧ a.classDone = false →
      ∃ t, exec cmd s = .next t ∧ t.wsc.active = some a ∧ t.wsc.wash = .running ∧ t.dsu.live = [] ∧ t.dsu.flight = none ∧
        t.wpu = s.wpu ∧ t.hcu = s.hcu)) ∧
  (∀ (r : DoseRecord) (rest : List DoseRecord) (s : State), s.dsu.flight = some ⟨r.agent, .record, false⟩ →
    s.dsu.live = r :: rest → (∀ x ∈ rest, x.agent ≠ r.agent) → s.wsc.wash = .held → r.done + 1 = r.planned →
    (∀ x ∈ s.dsu.live, x.state = .suspended) →
    ∃ t, exec (.strokeSensorPulse r.agent) s = .next t ∧ t.dsu.live = rest ∧ t.dsu.ended = s.dsu.ended ++ [{ r with
        done := r.planned, misses := 0, state := if r.planned = r.full then .done else .short }] ∧
      t.told .dose (.dose r.agent (if r.planned = r.full then .done else .short)) ∧ t.dsu.drive = s.dsu.drive ∧
      t.wsc = (if r.agent = .rinseAid ∧ r.planned ≠ r.full then
        { s.wsc with ctx := s.wsc.ctx.map fun c => { c with shortfall := true } } else s.wsc) ∧
      { t with lkp := s.lkp, spt := s.spt, dsu := s.dsu, wsc := s.wsc } = s) ∧
  (∀ (q : DoseTest) (s : State), s.dsu.flight = some ⟨q.agent, .test, false⟩ → s.dsu.testRec = some q →
    s.cdu.mode = .service → s.wsc.wash ≠ .running →
    ∃ t, exec (.strokeSensorPulse q.agent) s = .next t ∧ t.dsu = { s.dsu with
        flight := some ⟨q.agent, .test, true⟩, testRec := some { q with sensed := q.sensed + 1 } } ∧
      t.testEntry q.agent.actuator = { s.testEntry q.agent.actuator with driven := q.driven, sensed := q.sensed + 1 } ∧
      (∀ x, x ≠ q.agent.actuator → t.testEntry x = s.testEntry x) ∧
      ((s.entry q.agent.entry).tracked = true →
        t.entry q.agent.entry = { s.entry q.agent.entry with
          estimate := (s.entry q.agent.entry).estimate - (s.entry q.agent.entry).stroke }) ∧
      ((s.entry q.agent.entry).tracked = false → t.spt = s.spt) ∧
      (∀ e, e ≠ q.agent.entry → t.entry e = s.entry e) ∧
      { t with lkp := s.lkp, spt := s.spt, dsu := s.dsu, cdu := s.cdu } = s)

/-! ## Wash and heat -/

/-- O42. HOLD_COUNTDOWN_END and TURBIDITY_READING (R112, R113, R114, R141, R106, R107, R116): a countdown that has come to 0 goes to
SENSE with the soil-sense flag, waits while doses are live, goes to DRAIN with the drain flag, and otherwise ends the phase; the
next queued phase then begins, here one of kind DRAIN, and with an empty queue the program ends. Readings wait for 60 s of
circulation; the eighth gives the mean and the class, which the program context takes, and with no live dose SENSE is left in the
same way. That a countdown which owes nothing from its start ends by the event too is the model's choice (log 13). -/
def Obligations.HoldAndSenseEnd : Prop :=
  (∀ s : State, (∀ a, s.wsc.active = some a → s.wsc.wash ≠ .running ∨ a.stage ≠ .hold ∨ a.holdEnded = true ∨ 0 < a.holdSec) →
    exec .holdCountdownEnd s = .next s) ∧
  (∀ (a b : ActivePhase) (s : State), s.wsc.active = some a → s.wsc.wash = .running → a.stage = .hold → a.holdEnded = false →
    a.holdSec = 0 →
    b = { a with holdSec := 0, holdFracMs := 0, holdEnded := true } →
    (a.record.soilSense = true →
      exec .holdCountdownEnd s = .next { s with
        wsc := { s.wsc with active := some { b with stage := .sense } }, hcu := { s.hcu with classify := some [] } }) ∧
    (a.record.soilSense = false → s.dsu.live ≠ [] →
      exec .holdCountdownEnd s = .next { s with wsc := { s.wsc with active := some b } }) ∧
    (a.record.soilSense = false → s.dsu.live = [] → a.record.drainAtEnd = true → s.cdu.mode = .run →
      ∃ t, exec .holdCountdownEnd s = .next t ∧ t.wsc = { s.wsc with active := some { b with stage := .drain } } ∧
        t.wpu = { s.wpu with drain := some ⟨0, 0⟩, drainPump := true } ∧ t.hcu.heat = none ∧ t.hcu.level = 0 ∧
        t.hcu.demand = none ∧ t.hcu.pumpRuns = false ∧ t.hcu.move = none ∧
          { t with wpu := s.wpu, wsc := s.wsc, hcu := s.hcu } = s) ∧
    (∀ p rest, a.record.soilSense = false → s.dsu.live = [] → a.record.drainAtEnd = false → s.cdu.mode = .run →
      s.wsc.queue = p :: rest → p.kind = .drain → s.doorClass = .closed → s.dru.latched = true → s.sfu.run = none →
      ∃ t, exec .holdCountdownEnd s = .next t ∧ t.told .phase (.phase a.record.id) ∧ t.phaseBegun p rest .drain ∧
        t.wpu = { s.wpu with drain := some ⟨0, 0⟩, drainPump := true } ∧ t.wsc.ctx = s.wsc.ctx ∧ t.cdu.mode = .run ∧
        t.dsu.ended = [] ∧ t.hcu.heat = none ∧ t.hcu.demand = none ∧ t.hcu.pumpRuns = false) ∧
    (∀ x, a.record.soilSense = false → s.dsu.live = [] → a.record.drainAtEnd = false → s.cdu.mode = .run → s.wsc.queue = [] →
      s.wsc.ctx = some x →
      ∃ t, exec .holdCountdownEnd s = .next t ∧ t.told .phase (.phase a.record.id) ∧
        t.told .program (.program .completed x.total) ∧ t.told .mode (.mode .standby) ∧ t.cdu.mode = .standby ∧
        t.wsc.wash = .idle ∧ t.wsc.active = none ∧ t.wsc.ctx = some x ∧ t.dsu.ended = [] ∧ t.hcu.heat = none ∧
        t.hcu.demand = none ∧ t.hcu.pumpRuns = false ∧ t.wpu.meters = s.wpu.meters)) ∧
  (∀ (count : Nat) (s : State), s.hcu.classify = none ∨ s.hcu.circMs < 60000 → exec (.turbidityReading count) s = .next s) ∧
  (∀ (count : Nat) (l : List Nat) (s : State), s.hcu.classify = some l → l.length < 7 →
    60000 ≤ s.hcu.circMs →
    exec (.turbidityReading count) s = .next { s with hcu := { s.hcu with classify := some (l ++ [count]) } }) ∧
  (∀ (count : Nat) (l : List Nat) (a : ActivePhase) (x : ProgramContext) (s : State), s.hcu.classify = some l → l.length = 7 →
    s.wsc.active = some a → s.wsc.ctx = some x → s.dsu.live ≠ [] → 60000 ≤ s.hcu.circMs →
    ∃ k, exec (.turbidityReading count) s = .next { s with
        hcu := { s.hcu with
          classify := none, lastMean := (l.sum + count) / 8, lastClass := some k }
        wsc := { s.wsc with ctx := some { x with soilClass := some k }, active := some { a with classDone := true } } } ∧
      ((l.sum + count) / 8 < s.dsu.soil.t1 → k = 0) ∧
      (s.dsu.soil.t1 ≤ (l.sum + count) / 8 → (l.sum + count) / 8 < s.dsu.soil.t2 → k = 1) ∧
      (s.dsu.soil.t1 ≤ (l.sum + count) / 8 → s.dsu.soil.t2 ≤ (l.sum + count) / 8 → (l.sum + count) / 8 < s.dsu.soil.t3 → k = 2) ∧
      (s.dsu.soil.t1 ≤ (l.sum + count) / 8 → s.dsu.soil.t2 ≤ (l.sum + count) / 8 → s.dsu.soil.t3 ≤ (l.sum + count) / 8 → k = 3)) ∧
  (∀ (count : Nat) (l : List Nat) (a : ActivePhase) (x : ProgramContext) (s : State), s.hcu.classify = some l → l.length = 7 →
    s.wsc.active = some a → s.wsc.ctx = some x → s.dsu.live = [] → 60000 ≤ s.hcu.circMs → s.wsc.wash = .running →
    a.stage = .sense → s.cdu.mode = .run →
    (a.record.drainAtEnd = true →
      ∃ t k, exec (.turbidityReading count) s = .next t ∧ t.hcu.lastClass = some k ∧ t.hcu.lastMean = (l.sum + count) / 8 ∧
        t.hcu.classify = none ∧ t.wsc = { s.wsc with
          ctx := some { x with soilClass := some k }, active := some { a with stage := .drain, classDone := true } } ∧
        t.wpu = { s.wpu with drain := some ⟨0, 0⟩, drainPump := true } ∧ t.hcu.heat = none ∧ t.hcu.demand = none ∧
        t.hcu.pumpRuns = false) ∧
    (a.record.drainAtEnd = false → s.wsc.queue = [] →
      ∃ t k, exec (.turbidityReading count) s = .next t ∧ t.hcu.lastClass = some k ∧ t.told .phase (.phase a.record.id) ∧
        t.programEnded x.total ∧ t.wsc.ctx = some { x with soilClass := some k }) ∧
    (∀ p rest, a.record.drainAtEnd = false → s.wsc.queue = p :: rest → p.kind = .drain → s.doorClass = .closed →
      s.dru.latched = true → s.sfu.run = none →
      ∃ t k, exec (.turbidityReading count) s = .next t ∧ t.hcu.lastClass = some k ∧ t.told .phase (.phase a.record.id) ∧
        t.phaseBegun p rest .drain ∧ t.wsc.ctx = some { x with soilClass := some k }))

/-- O43. TEMPERATURE_SAMPLE below 85.0 °C (R128, R129, R133, R111, R112): the reading is taken; without a request L is 0; with one,
L is the error over 5 rounded up, at most 8; MAINTAIN answers whether the water is within 2.0 °C below the target; HEAT reports its
target reached once, at 0.5 °C below, and the phase goes from HEAT to HOLD with a MAINTAIN request. That a dry count which runs goes
on under that new request is the model's choice (log 43). -/
def Obligations.SampleSetsLevelAndReports : Prop :=
  ∀ (reading : Int) (s : State), 0 ≤ reading → reading < 850 →
    (s.hcu.heat = none →
      exec (.temperatureSample reading) s = .next { s with hcu := { s.hcu with
        temp := reading, noSample := false, level := 0 } }) ∧
    (∀ q, s.hcu.heat = some q → q.mode ≠ .test →
      ∃ L : Nat, (q.target ≤ reading → L = 0) ∧ (40 ≤ q.target - reading → L = 8) ∧
        (reading < q.target → q.target - reading < 40 →
          q.target - reading ≤ 5 * (L : Int) ∧ 5 * (L : Int) < q.target - reading + 5) ∧
        (q.mode = .maintain →
          exec (.temperatureSample reading) s = .next { s with hcu := { s.hcu with
            temp := reading, noSample := false, level := L
            heat := some { q with band := some (decide (q.target - 20 ≤ reading)) } } }) ∧
        (q.mode = .heat → q.reached = true ∨ reading < q.target - 5 →
          exec (.temperatureSample reading) s = .next { s with hcu := { s.hcu with
            temp := reading, noSample := false, level := L } }) ∧
        (∀ a, q.mode = .heat → q.reached = false → q.target - 5 ≤ reading → s.wsc.active = some a → s.wsc.wash = .running →
          a.stage = .heat → a.record.rinse = none → 0 < a.target →
          exec (.temperatureSample reading) s = .next { s with
            hcu := { s.hcu with
              temp := reading, noSample := false, level := L, heat := some ⟨.maintain, a.target, false, none⟩ }
            wsc := { s.wsc with active := some { a with stage := .hold } } }))

/-- O44. ZERO_CROSSING (R130, R131): a window begun at level L fires its first L half-cycles of eight, whatever levels the samples
bring meanwhile; without the interlock no half-cycle is fired and the window is abandoned. -/
def Obligations.BurstWindowsFireTheirLevel : Prop :=
  (∀ (levels : Nat → Nat) (s : State), s.hcu.pumpRuns = true → s.wpu.waterPresent = true → s.doorClass = .closed →
    s.dru.latched = true → s.dru.opener = .retracted → s.cdu.mode = .run ∨ s.cdu.mode = .service → levels 0 ≤ 8 →
    (s.hcu.burst = .idle ∧ 0 < levels 0 ∨ s.hcu.burst = .off 0 ∨ s.hcu.burst = .on 0 8) →
    ∃ w : Nat → State, w 0 = s ∧ ∀ n, n < 8 →
      exec .zeroCrossing { w n with hcu := { (w n).hcu with level := levels n } } = .next (w (n + 1)) ∧
      (w (n + 1)).hcu.energised = decide (n < levels 0) ∧ { w (n + 1) with hcu := s.hcu } = s) ∧
  (∀ s : State, s.hcu.pumpRuns = false ∨ s.wpu.waterPresent = false ∨ s.doorClass ≠ .closed ∨ s.dru.latched = false ∨
      s.dru.opener ≠ .retracted ∨ s.cdu.mode = .standby ∨ s.cdu.mode = .safe →
    exec .zeroCrossing s = .next { s with hcu := { s.hcu with burst := .idle, energised := false } })

/-- O45. HEAT_LIMIT_EXPIRY (R134, R111, R112, R176): at the phase's limit HEAT_SLOW is recorded and the count goes back to 0. Its
trap holds the wash without heat or pump; its default makes the present temperature the target, lengthens the hold by half, and goes
on to HOLD with a MAINTAIN request, under which a dry count that runs goes on (the model's choice, log 43). Below the limit, or
without a HEAT request that still counts, nothing happens. -/
def Obligations.HeatLimitExpires : Prop :=
  (∀ s : State, (∀ q, s.hcu.heat = some q → q.mode ≠ .heat ∨ q.reached = true) ∨ s.hcu.heatMs < s.hcu.heatLimit * 1000 →
    exec .heatLimitExpiry s = .next s) ∧
  (∀ (q : HeatRequest) (a : ActivePhase) (s : State), s.hcu.heat = some q → q.mode = .heat → q.reached = false →
    s.hcu.heatLimit * 1000 ≤ s.hcu.heatMs → s.cdu.mode = .run → s.wsc.wash = .running → s.wsc.active = some a → a.stage = .heat →
      a.record.rinse = none →
    ∃ t, exec .heatLimitExpiry s = .next t ∧ State.recorded s t .heatSlow ∧ t.hcu.heatMs = 0 ∧ t.cdu.mode = .run ∧
      t.wpu = s.wpu ∧ t.sfu = s.sfu ∧ t.spt = s.spt ∧ t.dru = s.dru ∧
      (hasCondition s.cdu.traps .heatSlow →
        t.wsc = { s.wsc with wash := .held, cause := some (.condition .heatSlow) } ∧ t.hcu.heat = none ∧ t.hcu.level = 0 ∧
        t.hcu.demand = none ∧ t.hcu.pumpRuns = false ∧
        t.dsu.live = s.dsu.live.map fun r => { r with state := .suspended }) ∧
      (¬hasCondition s.cdu.traps .heatSlow →
        t.wsc = { s.wsc with active := some { a with
          stage := .hold, target := s.hcu.temp, holdSec := a.holdSec * 3 / 2 } } ∧
        t.hcu = { s.hcu with heatMs := 0, heat := some ⟨.maintain, s.hcu.temp, false, none⟩ } ∧ t.dsu = s.dsu))

/-- O46. The diverter (R136 to R138, R140, R142): the cam reaching a move's target stops it and feeds the zone, or ends a running
diverter test with its arrival; other positions are passed; a period that has run moves on to the next zone of the mask, or starts
again in a mask of one; 4 s of a move raise DIVERTER_FAULT with the motor stopped where the cam then reads, be it the target. The
trap keeps the move pending, and RESUME finds the diverter there or moves again with a fresh 4 s; the default fixes the alternation
and feeds the zone that the cam reads, or turns checking off between zones. The test's 4 s only end the test. Before their figures
the two events do nothing. The premises on pump, opener and mode say that the pump runs for the wash. Whether the cam stands at the
target as the 4 s expire is a free value, for the two events have no order (log 42); that a test which its 4 s end there too is
recorded as not arrived, with the target as the cam's position, is the model's choice (log 47). -/
def Obligations.DiverterServesTheZones : Prop :=
  (∀ (z : Zone) (m : DiverterMove) (s : State), s.hcu.move = some m → m.forTest = false → m.target = .zone z →
    s.hcu.demand ≠ none → s.dru.opener = .retracted → s.cdu.mode = .run →
    exec (.camArrival (.at z)) s = .next { s with hcu := { s.hcu with
      cam := .at z, move := none, zone := some z, periodMs := if s.hcu.zone = some z then s.hcu.periodMs else 0
      watch := if s.hcu.checking = true ∧ z ≠ .top then .grace 0 else .none } }) ∧
  (∀ (c : Cam) (m : DiverterMove) (s : State), s.hcu.move = some m → (∀ z, m.target = .zone z → c ≠ .at z) →
    (m.target = .anyZone → c = .between) →
    exec (.camArrival c) s = .next { s with hcu := { s.hcu with cam := c } }) ∧
  (∀ s : State, (∀ m, s.hcu.move = some m → m.ms < 4000) → exec .diverterMoveTimeout s = .next s) ∧
  (∀ (z : Zone) (ms : Nat) (a : ActivePhase) (s : State), s.hcu.move = some ⟨.zone z, ms, false⟩ → 4000 ≤ ms →
    s.cdu.mode = .run →
    s.wsc.wash = .running → s.wsc.active = some a → a.stage = .heat ∨ a.stage = .hold ∨ a.stage = .sense →
    s.hcu.demand ≠ none → s.dru.opener = .retracted →
    ∃ t c, exec .diverterMoveTimeout s = .next t ∧ State.recorded s t .diverterFault ∧ t.hcu.move = none ∧ t.hcu.cam = c ∧
      (Config.camArrived s.uptimeMs = none → c = s.hcu.cam) ∧ (Config.camArrived s.uptimeMs ≠ none → c = .at z) ∧
      t.wpu = s.wpu ∧
      t.dru = s.dru ∧ t.sfu = s.sfu ∧ t.spt = s.spt ∧ t.cdu.mode = .run ∧
      (hasCondition s.cdu.traps .diverterFault →
        t.wsc = { s.wsc with wash := .held, cause := some (.condition .diverterFault) } ∧ t.hcu.pendingMove = some z ∧
        t.hcu.demand = none ∧ t.hcu.pumpRuns = false ∧ t.hcu.heat = none ∧ t.hcu.zone = s.hcu.zone ∧
        t.hcu.periodMs = s.hcu.periodMs) ∧
      (¬hasCondition s.cdu.traps .diverterFault → t.wsc = s.wsc ∧ t.dsu = s.dsu ∧
        (∀ y, c = .at y →
          t.hcu = { s.hcu with
            cam := c, move := none, pendingMove := none, fixed := true, zone := some y
            periodMs := if s.hcu.zone = some y then s.hcu.periodMs else 0
            watch := if s.hcu.checking = true ∧ y ≠ .top then .grace 0 else .none }) ∧
        (c = .between →
          t.hcu = { s.hcu with
            cam := c, move := none, pendingMove := none, fixed := true, checking := false, watch := .none }))) ∧
  (∀ (m : DiverterMove) (s : State), s.hcu.move = some m → m.forTest = true → s.testing .diverter = true →
    4000 ≤ m.ms →
    ∃ t c, exec .diverterMoveTimeout s = .next t ∧ t.hcu = { s.hcu with cam := c, move := none } ∧
      (Config.camArrived s.uptimeMs = none → c = s.hcu.cam) ∧
      (Config.camArrived s.uptimeMs ≠ none → m.target.reachedBy c = true) ∧
      t.testEntry .diverter = { s.testEntry .diverter with
        running := false, arrived := some false, cam := some c, outcome := some .completed } ∧
      t.cdu.causes = s.cdu.causes ∧ t.cdu.flags = s.cdu.flags ∧ { t with hcu := s.hcu, cdu := s.cdu } = s) ∧
  (∀ (z : Zone) (m : DiverterMove) (s : State), s.hcu.move = some m → m.forTest = true →
    m.target = .zone z ∨ m.target = .anyZone → s.testing .diverter = true →
    ∃ t, exec (.camArrival (.at z)) s = .next t ∧ t.hcu = { s.hcu with cam := .at z, move := none } ∧
      t.testEntry .diverter = { s.testEntry .diverter with
        running := false, arrived := some true, cam := some (.at z), outcome := some .completed } ∧
      (∀ b, b ≠ .diverter → t.testEntry b = s.testEntry b) ∧ t.cdu.causes = s.cdu.causes ∧
      { t with hcu := s.hcu, cdu := s.cdu } = s) ∧
  (∀ (z : Zone) (s : State), s.hcu.demand ≠ none → s.dru.opener = .retracted → s.cdu.mode = .run → s.hcu.move = none →
    s.hcu.cam = .at z → s.hcu.zone = some z → s.hcu.fixed = false → s.hcu.period * 1000 ≤ s.hcu.periodMs →
    ((∀ y : Zone, y ≠ z → s.hcu.mask.testBit y.bitIdx = false) →
      exec .zonePeriodEnd s = .next { s with hcu := { s.hcu with periodMs := 0 } }) ∧
    (∀ y : Zone, s.hcu.mask.testBit y.bitIdx = true →
      y = z.next ∨ y = z.next.next ∧ s.hcu.mask.testBit z.next.bitIdx = false →
      exec .zonePeriodEnd s = .next { s with hcu := { s.hcu with
        move := some ⟨.zone y, 0, false⟩, pendingMove := none
        watch := .none } })) ∧
  (∀ s : State, s.hcu.move ≠ none ∨ s.hcu.fixed = true ∨ s.hcu.cam = .between ∨ s.hcu.periodMs < s.hcu.period * 1000 →
    exec .zonePeriodEnd s = .next s) ∧
  (∀ (z : Zone) (a : ActivePhase) (s : State), s.wsc.wash = .held → s.cdu.mode = .run → s.wsc.active = some a →
    a.stage = .heat → s.doorClass = .closed → s.dru.latched = true → s.dru.opener = .retracted → s.cdu.causes = 0 →
    s.dsu.live = [] → s.hcu.pendingMove = some z → s.hcu.move = none → s.hcu.fixed = false → s.hcu.pumpRuns = false →
    ∃ t, exec .resume s = .next t ∧ t.wsc.wash = .running ∧ t.hcu.pumpRuns = true ∧ t.hcu.pendingMove = none ∧
      (s.hcu.cam = .at z → t.hcu.move = none ∧ t.hcu.zone = some z) ∧
      (s.hcu.cam ≠ .at z → t.hcu.move = some ⟨.zone z, 0, false⟩ ∧ t.hcu.zone = s.hcu.zone))

/-- O47. The arms (R139, R140): a pulse shifts its time into the arm's captures and starts the watched gap again; the grace's end,
at 3 s, begins the gap; a gap of 6 s, and no shorter one, raises ARM_STALLED, whose trap holds the wash, and whose default drops the
zone from the mask and moves on, or turns checking off for the only zone or a fixed alternation. -/
def Obligations.ArmsAreWatched : Prop :=
  (∀ (a x : Arm) (s : State), x ≠ a →
    ∃ t, exec (.armPulse a) s = .next t ∧ (t.arm a).c0 = (s.arm a).c1 ∧ (t.arm a).c1 = (s.arm a).c2 ∧
      (t.arm a).c2 = (s.arm a).c3 ∧ ((s.arm a).sinceMs = none → (t.arm a).c3 = 65535) ∧
      (∀ n, (s.arm a).sinceMs = some n → (t.arm a).c3 = min n 65535) ∧ (t.arm a).sinceMs = some 0 ∧ t.arm x = s.arm x ∧
      { t with hcu := s.hcu } = s ∧ t.hcu.heat = s.hcu.heat ∧ t.hcu.zone = s.hcu.zone ∧
      (∀ n z, s.hcu.watch = .watching n → s.hcu.demand ≠ none → s.dru.opener = .retracted → s.cdu.mode = .run →
        s.hcu.move = none → s.hcu.cam = .at z →
        t.hcu.watch = (if z = .lower ∧ a = .lower ∨ z = .upper ∧ a = .upper then .watching 0 else .watching n)) ∧
      ((∀ n, s.hcu.watch ≠ .watching n) → t.hcu.watch = s.hcu.watch)) ∧
  (∀ (n : Nat) (s : State), s.hcu.watch = .grace n → 3000 ≤ n →
    exec .armCheckGraceEnd s = .next { s with hcu := { s.hcu with watch := .watching 0 } }) ∧
  (∀ s : State, (∀ n, s.hcu.watch = .grace n → n < 3000) → exec .armCheckGraceEnd s = .next s) ∧
  (∀ (n : Nat) (s : State), s.hcu.watch = .watching n → n < 6000 → exec .armGapExpiry s = .next s) ∧
  (∀ s : State, (∀ n, s.hcu.watch ≠ .watching n) ∨ s.hcu.pumpRuns = false ∧ s.hcu.demand = none →
    exec .armGapExpiry s = .next s) ∧
  (∀ (n : Nat) (z : Zone) (a : ActivePhase) (s : State), s.hcu.watch = .watching n → 6000 ≤ n → s.hcu.demand ≠ none →
    s.dru.opener = .retracted → s.cdu.mode = .run → s.hcu.move = none → s.hcu.cam = .at z → s.wsc.wash = .running →
    s.wsc.active = some a → a.stage = .heat ∨ a.stage = .hold ∨ a.stage = .sense → s.hcu.mask ≤ 7 → s.hcu.dropped ≤ 7 →
    ∃ t, exec .armGapExpiry s = .next t ∧ State.recorded s t .armStalled ∧ t.wpu = s.wpu ∧ t.dru = s.dru ∧ t.spt = s.spt ∧
      t.cdu.mode = .run ∧ t.hcu.watch = .none ∧
      (hasCondition s.cdu.traps .armStalled →
        t.wsc = { s.wsc with wash := .held, cause := some (.condition .armStalled) } ∧ t.hcu.demand = none ∧
        t.hcu.pumpRuns = false ∧ t.hcu.mask = s.hcu.mask ∧ t.hcu.checking = s.hcu.checking) ∧
      (¬hasCondition s.cdu.traps .armStalled → t.wsc = s.wsc ∧ t.dsu = s.dsu ∧
        (s.hcu.fixed = true ∨ (∀ y : Zone, y ≠ z → s.hcu.mask.testBit y.bitIdx = false) →
          t.hcu = { s.hcu with checking := false, watch := .none }) ∧
        (∀ y : Zone, s.hcu.fixed = false → s.hcu.mask.testBit y.bitIdx = true →
          y = z.next ∨ y = z.next.next ∧ s.hcu.mask.testBit z.next.bitIdx = false → ∃ zones gone,
          t.hcu = { s.hcu with
            mask := zones, dropped := gone, watch := .none, move := some ⟨.zone y, 0, false⟩, pendingMove := none } ∧
          (∀ u : Zone, zones.testBit u.bitIdx = (s.hcu.mask.testBit u.bitIdx && decide (u ≠ z))) ∧
          (∀ u : Zone, gone.testBit u.bitIdx = (s.hcu.dropped.testBit u.bitIdx || decide (u = z))))))

/-! ## Door and opener -/

/-- O48. HINGE_ENCODER_EDGE (R145, R146, R147, R148): each edge is one count, in the direction that the other channel's level gives,
within 0 to 1,023 and held at 0 by a closed door; a change of direction counts to 255; a change of the door class sets DOOR
attention. With no run, no heater test and the class as before, nothing else changes. -/
def Obligations.HingeCountsEveryEdge : Prop :=
  ∀ (c : Channel) (rising : Bool) (d : Direction) (s : State),
    (d = .opening ↔ (if c = .a then rising ≠ s.dru.encB else rising = s.dru.encA)) →
    ∃ t, exec (.hingeEncoderEdge c rising) s = .next t ∧ t.dru.direction = some d ∧
      (s.dru.doorClosed = true → t.dru.angle = 0) ∧
      (s.dru.doorClosed = false → d = .opening → t.dru.angle = min 1023 (s.dru.angle + 1)) ∧
      (s.dru.doorClosed = false → d = .closing → t.dru.angle = s.dru.angle - 1) ∧
      t.dru.changes = (if s.dru.direction = none ∨ s.dru.direction = some d then s.dru.changes else min 255 (s.dru.changes + 1)) ∧
      t.dru.encA = (if c = .a then rising else s.dru.encA) ∧ t.dru.encB = (if c = .a then s.dru.encB else rising) ∧
      t.dru.referenced = s.dru.referenced ∧ t.dru.doorClosed = s.dru.doorClosed ∧ t.dru.latched = s.dru.latched ∧
      t.wpu.meters = s.wpu.meters ∧ (t.doorClass ≠ s.doorClass → t.told .door (.door t.doorClass s.dru.latched)) ∧
      (s.dyc.run = none → s.testing .heater = false → t.doorClass = s.doorClass → { t with dru := s.dru } = s)

/-- O49. DOOR_CLOSED_SWITCH_CHANGE and LATCH_SWITCH_CHANGE (R147, R148, R149, R115, R153, R188): a settled door switch writes its
field and gives the zero; both set DOOR attention with the class and the latch; an opening of either raises DOOR_OPENED in a RUNNING
water or DRAIN phase, which is HELD, and ends a heater test LOST; a released latch lets a waiting EXTEND drive out. That the level a
field has already changes nothing is the model's choice (log 19). -/
def Obligations.DoorAndLatchAreFollowed : Prop :=
  (∀ (b : Bool) (s : State), s.dru.doorClosed = b → exec (.doorClosedSwitchChange b) s = .next s) ∧
  (∀ (b : Bool) (s : State), s.dru.latched = b → exec (.latchSwitchChange b) s = .next s) ∧
  (∀ (b : Bool) (s : State), s.dru.doorClosed ≠ b →
    ∃ t, exec (.doorClosedSwitchChange b) s = .next t ∧ t.dru.doorClosed = b ∧ t.dru.angle = 0 ∧
      t.dru.referenced = (s.dru.referenced || b) ∧ t.dru.latched = s.dru.latched ∧ t.dru.changes = s.dru.changes ∧
      t.doorClass = (if b = true then .closed else if s.dru.referenced = true then .ajar else .open) ∧
      t.told .door (.door t.doorClass s.dru.latched) ∧ t.wpu.meters = s.wpu.meters) ∧
  (∀ (b : Bool) (s : State), s.dru.latched ≠ b →
    ∃ t, exec (.latchSwitchChange b) s = .next t ∧ t.dru.latched = b ∧ t.dru.doorClosed = s.dru.doorClosed ∧
      t.dru.angle = s.dru.angle ∧ t.told .door (.door s.doorClass b) ∧ t.wpu.meters = s.wpu.meters ∧
      (b = false → s.dru.phase = some .releasing → s.dru.endExtended = false →
        t.dru = { s.dru with latched := false, phase := some .driving, moveMs := 0, motor := some .extend }) ∧
      (b = true ∨ s.dru.phase ≠ some .releasing → t.dru = { s.dru with latched := b })) ∧
  (∀ (cmd : Instr) (s t : State), exec cmd s = .next t →
    cmd = .doorClosedSwitchChange false ∧ s.dru.doorClosed = true ∨ cmd = .latchSwitchChange false ∧ s.dru.latched = true →
    (∀ a, s.cdu.mode = .run → s.wsc.wash = .running → s.wsc.active = some a → a.record.kind ≠ .dry →
      t.wsc.wash = .held ∧ t.wsc.cause = some (.condition .doorOpened) ∧ t.wsc.active = some a ∧
      hasCondition t.cdu.causes .doorOpened ∧ hasCondition t.cdu.flags .doorOpened ∧ t.cdu.mode = .run) ∧
    (s.testing .heater = true → (t.testEntry .heater).running = false ∧ (t.testEntry .heater).outcome = some .lost ∧
      t.hcu.heat = none))

/-- O50. The ends of a move (R153 to R157): at 300 ms the release pulse ends and the solenoid goes off; a latch that stays engaged
for 500 ms, or a drive of 6 s, ends the move FAULT, and no shorter one does; an end switch that a drive runs toward ends it DONE;
any other change of an end switch writes its field alone. That the level which an end switch has already changes nothing is the
model's choice (log 19). HOST ends set OPENER attention, and a HOST FAULT records OPENER_FAULT. -/
def Obligations.OpenerMovesEnd : Prop :=
  (∀ s : State, exec .releasePulseEnd s =
    .next { s with dru := { s.dru with solenoid := if 300 ≤ s.dru.pulseMs then false else s.dru.solenoid } }) ∧
  (∀ s : State, (s.dru.phase ≠ some .releasing ∨ s.dru.moveMs < 500 → exec .releaseTimeout s = .next s) ∧
    (s.dru.phase ≠ some .driving ∨ s.dru.moveMs < 6000 → exec .openerDriveTimeout s = .next s)) ∧
  (∀ (cmd : Instr) (s : State), cmd = .releaseTimeout ∧ s.dru.phase = some .releasing ∧ 500 ≤ s.dru.moveMs ∨
      cmd = .openerDriveTimeout ∧ s.dru.phase = some .driving ∧ 6000 ≤ s.dru.moveMs →
    s.dru.issuer = .host →
    ∃ t, exec cmd s = .next t ∧
      t.dru = { s.dru with
        opener := .fault, phase := none, motor := none, solenoid := false, last := some ⟨s.dru.commanded, .host, .fault⟩ } ∧
      State.recorded s t .openerFault ∧ t.told .opener (.opener s.dru.commanded .fault) ∧ t.hcu.pumpRuns = false ∧
      t.cdu.mode = s.cdu.mode ∧ { t with lkp := s.lkp, hcu := s.hcu, dru := s.dru, cdu := s.cdu } = s) ∧
  (∀ (cmd : Instr) (s : State), cmd = .releaseTimeout ∧ s.dru.phase = some .releasing ∧ 500 ≤ s.dru.moveMs ∨
      cmd = .openerDriveTimeout ∧ s.dru.phase = some .driving ∧ 6000 ≤ s.dru.moveMs →
    s.dru.issuer = .test →
    ∃ t, exec cmd s = .next t ∧ t.dru.opener = .fault ∧ t.dru.motor = none ∧ t.dru.solenoid = false ∧
      t.told .opener (.opener s.dru.commanded .fault) ∧ (t.testEntry .opener).running = false ∧
      (t.testEntry .opener).rod = some .fault ∧ t.cdu.causes = s.cdu.causes ∧ t.cdu.flags = s.cdu.flags) ∧
  (∀ (b : Bool) (s : State), (s.dru.endRetracted = b → exec (.endSwitchChange .retracted b) s = .next s) ∧
    (s.dru.endExtended = b → exec (.endSwitchChange .extended b) s = .next s)) ∧
  (∀ (b : Bool) (s : State),
    (s.dru.endRetracted ≠ b → b = false ∨ s.dru.phase ≠ some .driving ∨ s.dru.opener ≠ .retracting →
      exec (.endSwitchChange .retracted b) s = .next { s with dru := { s.dru with endRetracted := b } }) ∧
    (s.dru.endExtended ≠ b → b = false ∨ s.dru.phase ≠ some .driving ∨ s.dru.opener ≠ .extending →
      exec (.endSwitchChange .extended b) s = .next { s with dru := { s.dru with endExtended := b } })) ∧
  (∀ s : State, s.dru.phase = some .driving → s.dru.issuer = .host →
    (s.dru.endExtended = false → s.dru.opener = .extending →
      ∃ t, exec (.endSwitchChange .extended true) s = .next t ∧
        t.dru = { s.dru with
          endExtended := true, opener := .extended, phase := none, motor := none, solenoid := false
          last := some ⟨s.dru.commanded, .host, .done⟩ } ∧
        t.told .opener (.opener s.dru.commanded .done) ∧ s.sourcesKeptBut t .opener ∧
        { t with lkp := s.lkp, hcu := s.hcu, dru := s.dru } = s) ∧
    (s.dru.endRetracted = false → s.dru.opener = .retracting →
      ∃ t, exec (.endSwitchChange .retracted true) s = .next t ∧
        t.dru = { s.dru with
          endRetracted := true, opener := .retracted, phase := none, motor := none, solenoid := false
          last := some ⟨s.dru.commanded, .host, .done⟩ } ∧
        t.told .opener (.opener s.dru.commanded .done) ∧ s.sourcesKeptBut t .opener ∧
        { t with lkp := s.lkp, hcu := s.hcu, dru := s.dru } = s))

/-! ## Drying -/

/-- O51. The start of a drying run and the door (R161, R167, R168, R116, R117, R107, R170, R155): a DRY phase behind another begins
with its record, the dry time longer by a quarter after a rinse shortfall, and meets the door as it stands: shut it cools or dries,
ajar an OPEN run dries at once as the user's, open it ends USER_OPENED and with it the phase. In the running DRY phase a door report
moves the run on, or ends it with its phase, by its state, and none does while it is suspended; the program ends, or the next phase
begins, here a DRAIN, which an open door holds with DOOR_OPENED. A push of 20 counts begins YIELDING and draws the rod in; a smaller
one does nothing. -/
def Obligations.DryingMeetsTheDoor : Prop :=
  (∀ (a : ActivePhase) (p : PhaseRecord) (rest : List PhaseRecord) (x : ProgramContext) (s : State), (∃ d, s.wpu.drain = some d ∧
    8000 ≤ d.emptyMs) →
    s.wpu.waterPresent = false → s.wsc.abortDrain = false → s.wsc.active = some a → s.wsc.wash = .running → a.stage = .drain →
    s.cdu.mode = .run → s.wsc.queue = p :: rest → p.kind = .dry → s.sfu.run = none → s.wsc.ctx = some x →
    (s.doorClass = .closed ∨ p.openDoor = false ∧ s.doorClass = .ajar →
      ∃ t q, exec .drainEmptyCountExpiry s = .next t ∧ t.told .phase (.phase a.record.id) ∧ t.phaseBegun p rest .drying ∧
        t.wsc.ctx = some x ∧ t.dyc.run = some q ∧ p.dryingIn x.shortfall s.dyc.settings q ∧
        t.dru = { s.dru with dryHold := true } ∧ t.wpu = { s.wpu with drain := none, drainPump := false }) ∧
    (p.openDoor = true → s.doorClass = .ajar →
      ∃ t q, exec .drainEmptyCountExpiry s = .next t ∧ t.phaseBegun p rest .drying ∧ t.dyc.run = some q ∧ q.state = .ajar ∧
        q.userOpened = true ∧ q.rest = some s.dru.angle ∧ q.fanDemand = s.dyc.settings.fan ∧ q.dryMs = 0 ∧
        q.outstanding = none ∧ t.dru = { s.dru with dryHold := true }) ∧
    (s.doorClass = .open → rest = [] →
      ∃ t q, exec .drainEmptyCountExpiry s = .next t ∧ t.told .phase (.phase p.id) ∧
        t.told .program (.program .completed x.total) ∧ t.told .dry (.dry .userOpened) ∧ t.cdu.mode = .standby ∧
        t.wsc.wash = .idle ∧ t.wsc.active = none ∧ t.dyc.run = some q ∧ q.state = .ended ∧ q.outcome = some .userOpened ∧
        q.fanDemand = false ∧ t.dru = { s.dru with dryHold := false })) ∧
  (∀ (r : DryRun) (a : ActivePhase) (s : State), s.dyc.run = some r → s.wsc.active = some a → a.record.kind = .dry →
    a.stage = .drying → s.dru.doorClosed = true → s.dru.referenced = true → s.testing .heater = false →
    (s.wsc.wash = .running → r.suspended = false → r.state = .cooling →
      ∃ t q, exec (.doorClosedSwitchChange false) s = .next t ∧ t.dyc.run = some q ∧ q.state = .ajar ∧ q.userOpened = true ∧
        q.rest = some 0 ∧ q.stateMs = 0 ∧ q.dryMs = r.dryMs ∧ q.fanDemand = r.settings.fan ∧ t.wsc = s.wsc ∧
        t.dru = { s.dru with doorClosed := false, angle := 0 }) ∧
    (r.suspended = true ∨ r.state = .closedDry ∨ r.state = .opening ∨ r.state = .ending →
      ∃ t, exec (.doorClosedSwitchChange false) s = .next t ∧ t.dyc = s.dyc ∧ t.wsc = s.wsc ∧
        t.dru = { s.dru with doorClosed := false, angle := 0 })) ∧
  (∀ (r : DryRun) (a : ActivePhase) (x : ProgramContext) (s : State), s.dyc.run = some r → r.suspended = false →
    s.wsc.wash = .running → s.wsc.active = some a → a.record.kind = .dry → a.stage = .drying → s.cdu.mode = .run →
    s.wsc.ctx = some x → s.dru.doorClosed = false → s.testing .heater = false → r.state = .ajar ∨ r.state = .yielding →
    s.wsc.queue = [] ∨ (∃ p rest, s.wsc.queue = p :: rest ∧ p.kind = .drain ∧ s.dru.latched = true ∧ s.sfu.run = none) →
    ∃ t q, exec (.doorClosedSwitchChange true) s = .next t ∧ t.dyc.run = some q ∧ q.state = .ended ∧
      q.outcome = some .userClosed ∧ q.fanDemand = false ∧ t.told .dry (.dry .userClosed) ∧
      t.told .phase (.phase a.record.id) ∧ t.dru.dryHold = false ∧
      (r.state = .ajar → s.dru.opener = .extended → s.dru.endRetracted = false →
        t.dru.opener = .retracting ∧ t.dru.issuer = .dry ∧ t.dru.motor = some .retract) ∧
      (r.state = .yielding ∨ s.dru.opener ≠ .extended → t.dru.opener = s.dru.opener ∧ t.dru.motor = s.dru.motor) ∧
      (s.wsc.queue = [] → t.programEnded x.total) ∧
      (∀ p rest, s.wsc.queue = p :: rest → t.phaseBegun p rest .drain ∧
        t.wpu = { s.wpu with drain := some ⟨0, 0⟩, drainPump := true })) ∧
  (∀ (r : DryRun) (a : ActivePhase) (x : ProgramContext) (s : State), s.dyc.run = some r → r.suspended = false →
    s.wsc.wash = .running → s.wsc.active = some a → a.record.kind = .dry → a.stage = .drying → s.cdu.mode = .run →
    s.wsc.ctx = some x → s.dru.doorClosed = false → s.dru.referenced = true → s.dru.angle = 150 → s.dru.encB = false →
    s.testing .heater = false → r.state = .cooling ∨ r.state = .ajar ∨ r.state = .yielding ∨ r.state = .closedDry →
    s.wsc.queue = [] ∨ (∃ p rest, s.wsc.queue = p :: rest ∧ p.kind = .drain ∧ s.sfu.run = none) →
    ∃ t q, exec (.hingeEncoderEdge .a true) s = .next t ∧ t.dru.angle = 151 ∧ t.told .door (.door .open s.dru.latched) ∧
      t.dyc.run = some q ∧ q.state = .ended ∧ q.outcome = some .userOpened ∧ q.fanDemand = false ∧
      t.told .dry (.dry .userOpened) ∧ t.told .phase (.phase a.record.id) ∧ t.dru.dryHold = false ∧
      (r.state = .ajar → s.dru.opener = .extended → s.dru.endRetracted = false →
        t.dru.opener = .retracting ∧ t.dru.issuer = .dry ∧ t.dru.motor = some .retract) ∧
      (s.wsc.queue = [] → t.programEnded x.total) ∧
      (∀ p rest, s.wsc.queue = p :: rest → t.wsc.queue = rest ∧ t.wsc.wash = .held ∧
        t.wsc.cause = some (.condition .doorOpened) ∧
        t.wsc.active = some ⟨p, .drain, p.hold, 0, p.temp, false, false, false, false, false⟩)) ∧
  (∀ (r : DryRun) (n : Nat) (s : State), s.dyc.run = some r → r.suspended = false → r.state = .ajar → s.dru.opener = .extended →
    s.dru.doorClosed = false → s.dru.referenced = true → s.dru.angle ≤ 150 → s.dru.encA = false → r.rest = some n →
    s.dru.endRetracted = false → s.cdu.mode ≠ .safe → 1 ≤ s.dru.angle →
    (s.dru.angle - 1 + 20 ≤ n →
      ∃ t q, exec (.hingeEncoderEdge .b true) s = .next t ∧ t.dru.angle = s.dru.angle - 1 ∧ t.dyc.run = some q ∧
        q.state = .yielding ∧ q.stateMs = 0 ∧ q.fanDemand = r.fanDemand ∧ q.dryMs = r.dryMs ∧ q.humLow = r.humLow ∧
        q.outstanding = some ⟨.retract, true⟩ ∧ t.dru.opener = .retracting ∧ t.dru.issuer = .dry ∧
        t.dru.motor = some .retract ∧ t.dru.dryHold = s.dru.dryHold ∧ t.cdu = s.cdu ∧ t.lkp = s.lkp) ∧
    (n < s.dru.angle - 1 + 20 →
      ∃ t, exec (.hingeEncoderEdge .b true) s = .next t ∧ t.dru.angle = s.dru.angle - 1 ∧ t.dyc = s.dyc ∧
        t.dru.opener = .extended))

/-- O52. The ends of the drying run's moves and its resumption (R107, R117, R156, R164, R165, R166, R168, R169, R171, R172): in
OPENING an EXTEND that ends DONE gives AJAR with the angle then standing, a RETRACT that ends DONE is followed by EXTEND, and a
FAULT falls back to CLOSED drying, DEGRADED at once where nothing is owed; ENDING ends DONE or DEGRADED; YIELDING goes on or falls
back. A run that ends takes its phase with it: the program ends, or the next phase begins, here a DRAIN. While suspended an end is
only kept, and RESUME takes it as if it had just come; a rod stopped part way is drawn in again. The EXTEND that an aborted run kept
is taken off at its end, and a DONE end of it is followed by RETRACT (R170). -/
def Obligations.DryMovesEnd : Prop :=
  (∀ (r : DryRun) (s : State), s.dyc.run = some r → r.suspended = false → r.state = .opening →
    r.outstanding = some ⟨.extend, true⟩ → s.dru.opener = .extending → s.dru.phase = some .driving → s.dru.issuer = .dry →
    s.dru.commanded = .extend → s.dru.endExtended = false → s.doorClass = .ajar →
    ∃ t, exec (.endSwitchChange .extended true) s = .next t ∧
      t.dru = { s.dru with
        endExtended := true, opener := .extended, phase := none, motor := none, solenoid := false
        last := some ⟨.extend, .dry, .done⟩ } ∧
      t.dyc = { s.dyc with run := some { r with
        state := .ajar, stateMs := 0, rest := some s.dru.angle, fanDemand := r.settings.fan, outstanding := none } } ∧
      { t with hcu := s.hcu, dru := s.dru, dyc := s.dyc } = s) ∧
  (∀ (cmd : Instr) (r : DryRun) (c : OpenerCmd) (a : ActivePhase) (x : ProgramContext) (s : State), s.dyc.run = some r →
    r.suspended = false → r.state = .opening ∨ r.state = .yielding → r.outstanding = some ⟨c, true⟩ → s.dru.issuer = .dry →
    s.wsc.wash = .running → s.wsc.active = some a → a.stage = .drying → s.cdu.mode = .run → s.wsc.ctx = some x →
    cmd = .releaseTimeout ∧ s.dru.phase = some .releasing ∧ 500 ≤ s.dru.moveMs ∨
      cmd = .openerDriveTimeout ∧ s.dru.phase = some .driving ∧ 6000 ≤ s.dru.moveMs →
    (r.dryMs < r.dryTime * 1000 →
      ∃ t q, exec cmd s = .next t ∧ t.dyc.run = some q ∧ q.state = .closedDry ∧ q.degraded = true ∧ q.outstanding = none ∧
        q.dryMs = r.dryMs ∧ q.fanDemand = r.settings.fan ∧ q.outcome = r.outcome ∧ State.recorded s t .openerFault ∧
        t.dru.opener = .fault ∧ t.dru.motor = none ∧ t.dru.solenoid = false ∧ t.dru.dryHold = s.dru.dryHold ∧ t.wsc = s.wsc) ∧
    (r.dryTime * 1000 ≤ r.dryMs →
      s.wsc.queue = [] ∨ (∃ p rest, s.wsc.queue = p :: rest ∧ p.kind = .drain ∧ s.doorClass = .closed ∧ s.dru.latched = true ∧
        s.sfu.run = none) →
      ∃ t q, exec cmd s = .next t ∧ t.dyc.run = some q ∧ q.state = .ended ∧ q.outcome = some .degraded ∧ q.degraded = true ∧
        q.outstanding = none ∧ q.fanDemand = false ∧ t.told .dry (.dry .degraded) ∧ t.told .phase (.phase a.record.id) ∧
        hasCondition t.cdu.flags .openerFault ∧ t.dru.opener = .fault ∧ t.dru.motor = none ∧ t.dru.solenoid = false ∧
        t.dru.dryHold = false ∧ (s.wsc.queue = [] → State.recorded s t .openerFault ∧ t.programEnded x.total) ∧
        (∀ p rest, s.wsc.queue = p :: rest → t.phaseBegun p rest .drain))) ∧
  (∀ (r : DryRun) (a : ActivePhase) (x : ProgramContext) (s : State), s.dyc.run = some r → r.suspended = false →
    r.outstanding = some ⟨.retract, true⟩ → s.dru.opener = .retracting → s.dru.phase = some .driving → s.dru.issuer = .dry →
    s.dru.commanded = .retract → s.dru.endRetracted = false → s.wsc.wash = .running → s.wsc.active = some a →
    a.stage = .drying → s.cdu.mode = .run → s.wsc.ctx = some x →
    (r.state = .opening → s.hcu.heat = none → s.hcu.energised = false → s.hcu.demand = none → s.testing .circPump = false →
      s.dru.endExtended = false →
      ∃ t, exec (.endSwitchChange .retracted true) s = .next t ∧
        t.dyc = { s.dyc with run := some { r with outstanding := some ⟨.extend, true⟩ } } ∧ t.dru.opener = .extending ∧
        t.dru.commanded = .extend ∧ t.dru.issuer = .dry ∧ t.dru.last = some ⟨.retract, .dry, .done⟩ ∧ t.wsc = s.wsc ∧
        (s.dru.latched = true → t.dru.phase = some .releasing ∧ t.dru.solenoid = true ∧ t.dru.motor = none) ∧
        (s.dru.latched = false → t.dru.phase = some .driving ∧ t.dru.solenoid = false ∧ t.dru.motor = some .extend)) ∧
    (∀ cmd o, r.state = .ending →
      cmd = .endSwitchChange .retracted true ∧ o = .done ∨ cmd = .openerDriveTimeout ∧ 6000 ≤ s.dru.moveMs ∧ o = .degraded →
      s.wsc.queue = [] ∨ (∃ p rest, s.wsc.queue = p :: rest ∧ p.kind = .drain ∧ s.doorClass = .closed ∧ s.dru.latched = true ∧
        s.sfu.run = none) →
      ∃ t q, exec cmd s = .next t ∧ t.dyc.run = some q ∧ q.state = .ended ∧ q.outcome = some o ∧ q.outstanding = none ∧
        t.told .dry (.dry o) ∧ t.told .phase (.phase a.record.id) ∧ t.dru.dryHold = false ∧
        (o = .done → t.dru.opener = .retracted) ∧
        (o = .degraded → t.dru.opener = .fault ∧ hasCondition t.cdu.flags .openerFault) ∧
        (s.wsc.queue = [] → t.programEnded x.total) ∧
        (∀ p rest, s.wsc.queue = p :: rest → t.phaseBegun p rest .drain)) ∧
    (r.state = .yielding →
      ∃ t, exec (.endSwitchChange .retracted true) s = .next t ∧ t.wsc = s.wsc ∧
        t.dyc = { s.dyc with run := some { r with outstanding := none } } ∧ t.dru.opener = .retracted)) ∧
  (∀ (r : DryRun) (c : OpenerCmd) (s : State), s.dyc.run = some r → r.suspended = true → r.state ≠ .ended →
    r.outstanding = some ⟨c, true⟩ → s.dru.phase = some .driving → s.dru.issuer = .dry → s.dru.commanded = c →
    (6000 ≤ s.dru.moveMs → ∃ t, exec .openerDriveTimeout s = .next t ∧ t.dru.opener = .fault ∧
      t.dyc = { s.dyc with run := some { r with outstanding := none, pendingEnd := some ⟨c, .fault⟩ } }) ∧
    (s.dru.opener = .extending → s.dru.endExtended = false →
      ∃ t, exec (.endSwitchChange .extended true) s = .next t ∧ t.dru.opener = .extended ∧
        t.dyc = { s.dyc with run := some { r with outstanding := none, pendingEnd := some ⟨c, .done⟩ } })) ∧
  (∀ (a : ActivePhase) (r : DryRun) (s : State), s.wsc.wash = .held → s.cdu.mode = .run → s.wsc.active = some a →
    a.record.kind = .dry → a.stage = .drying → s.cdu.causes = 0 → s.dsu.live = [] → s.dyc.run = some r → r.suspended = true →
    (r.state = .opening → r.pendingEnd = some ⟨.extend, .done⟩ → s.dru.opener = .extended → s.doorClass = .ajar →
      ∃ t, exec .resume s = .next t ∧ t.wsc.wash = .running ∧
        t.dyc = { s.dyc with run := some { r with
          suspended := false, pendingEnd := none, outstanding := none, state := .ajar, stateMs := 0
          rest := some s.dru.angle, fanDemand := r.settings.fan } } ∧ t.dru = s.dru) ∧
    (r.state = .yielding ∨ r.state = .ending → s.dru.opener = .unknownPosition → s.dru.endRetracted = false →
      s.doorClass = .ajar → r.pendingEnd = none ∨ (∃ c, r.pendingEnd = some ⟨c, .stopped⟩) →
      ∃ t q, exec .resume s = .next t ∧ t.wsc.wash = .running ∧ t.dyc.run = some q ∧ q.state = r.state ∧
        q.suspended = false ∧ q.pendingEnd = none ∧ q.outstanding = some ⟨.retract, true⟩ ∧ t.dru.opener = .retracting ∧
        t.dru.issuer = .dry ∧ t.dru.motor = some .retract) ∧
    (r.state = .cooling ∨ r.state = .ajar ∨ r.state = .yielding ∨ r.state = .closedDry → r.pendingEnd = none →
      r.outstanding = none → s.dru.opener = .retracted → s.doorClass = .open → s.wsc.queue = [] →
      ∃ t q, exec .resume s = .next t ∧ t.dyc.run = some q ∧ q.state = .ended ∧ q.outcome = some .userOpened ∧
        t.told .dry (.dry .userOpened) ∧ t.told .phase (.phase a.record.id) ∧ t.wsc.active = none ∧ t.wsc.wash = .idle ∧
        t.cdu.mode = .standby)) ∧
  (∀ (r : DryRun) (s : State), s.dyc.run = some r → r.state = .ended → r.outstanding = some ⟨.extend, true⟩ →
    s.dru.issuer = .dry → s.dru.commanded = .extend → s.cdu.mode = .standby →
    (s.dru.opener = .extending → s.dru.phase = some .driving → s.dru.endExtended = false → s.dru.endRetracted = false →
      ∃ t, exec (.endSwitchChange .extended true) s = .next t ∧ t.dyc = { s.dyc with run := some { r with outstanding := none } } ∧
        t.dru.opener = .retracting ∧ t.dru.commanded = .retract ∧ t.dru.issuer = .dry ∧ t.dru.phase = some .driving ∧
        t.dru.motor = some .retract ∧ t.dru.last = some ⟨.extend, .dry, .done⟩ ∧ t.lkp = s.lkp ∧ t.wsc = s.wsc) ∧
    (s.dru.opener = .extending → s.dru.phase = some .driving → 6000 ≤ s.dru.moveMs →
      ∃ t, exec .openerDriveTimeout s = .next t ∧ t.dyc = { s.dyc with run := some { r with outstanding := none } } ∧
        t.dru.opener = .fault ∧ t.dru.motor = none ∧ t.dru.last = some ⟨.extend, .dry, .fault⟩ ∧
        State.recorded s t .openerFault ∧ t.wsc = s.wsc))

/-- O53. CABINET_SAMPLE, OPEN_DELAY_EXPIRY and COOLING_LIMIT_EXPIRY (R162, R163, R165, R166, R153): a sample is kept, and a drying
state counts its low humidity to 60; a cool sample after the open delay, or the limit of 1,200 s, begins OPENING, whose EXTEND
releases the latch first. The open delay's own expiry changes nothing, since only samples are tested against it, and the limit's
does nothing before its figure or without a COOLING run. -/
def Obligations.CoolingOpensTheDoor : Prop :=
  (∀ (temp hum : Int) (s : State), s.dyc.run = none →
    exec (.cabinetSample temp hum) s = .next { s with dyc := { s.dyc with cabTemp := temp, cabHum := hum } }) ∧
  (∀ (temp hum : Int) (r : DryRun) (s : State), s.dyc.run = some r → r.suspended = false → r.state = .closedDry →
    exec (.cabinetSample temp hum) s = .next { s with dyc := { s.dyc with
      cabTemp := temp, cabHum := hum
      run := some { r with
        humLow := if 0 ≤ hum ∧ hum ≤ 100 ∧ hum ≤ r.settings.humidity then min 60 (r.humLow + 1) else 0 } } }) ∧
  (∀ s : State, exec .openDelayExpiry s = .next s ∧
    ((∀ r, s.dyc.run = some r → r.suspended = true ∨ r.state ≠ .cooling ∨ r.stateMs < 1200000) →
      exec .coolingLimitExpiry s = .next s)) ∧
  (∀ (temp hum : Int) (r : DryRun) (s : State), s.dyc.run = some r → r.suspended = false → r.state = .cooling →
    r.stateMs < r.settings.openDelay * 1000 ∨ (r.settings.openTemp : Int) < temp ∨ temp < 0 ∨ 990 < temp →
    exec (.cabinetSample temp hum) s = .next { s with dyc := { s.dyc with cabTemp := temp, cabHum := hum } }) ∧
  (∀ (cmd : Instr) (r : DryRun) (s : State), s.dyc.run = some r → r.suspended = false → r.state = .cooling →
    (cmd = .coolingLimitExpiry ∧ 1200000 ≤ r.stateMs ∨ ∃ temp hum, cmd = .cabinetSample temp hum ∧
      r.settings.openDelay * 1000 ≤ r.stateMs ∧
      0 ≤ temp ∧ temp ≤ 990 ∧ temp ≤ (r.settings.openTemp : Int)) →
    s.dru.opener = .retracted → s.dru.latched = true → s.cdu.mode ≠ .safe → s.hcu.heat = none → s.hcu.energised = false →
    s.hcu.demand = none → s.hcu.pumpRuns = false → (∀ a, s.wsc.active = some a → a.stage.isWet = false) →
    ∃ t, exec cmd s = .next t ∧
      t.dyc.run = some { r with state := .opening, stateMs := 0, humLow := 0, outstanding := some ⟨.extend, true⟩ } ∧
      t.dru = { s.dru with
        opener := .extending, commanded := .extend, issuer := .dry, phase := some .releasing, moveMs := 0, solenoid := true
        pulseMs := 0 } ∧
      { t with hcu := s.hcu, dru := s.dru, dyc := s.dyc } = s)

/-- O54. DRY_TIME_REACHED, MIN_DRY_TIME_REACHED and DRY_COMMAND_RETRY (R164, R166, R169, R170, R117, R106, R107): at its dry time
CLOSED drying ends DONE, or DEGRADED after a fallback, with DRY attention, and with it the DRY phase; the next queued phase begins,
or with an empty queue the program ends. AJAR with the rod out goes to ENDING at the dry time, or at 600 dry seconds with 60 of low
humidity, and draws the rod in; before their figures the two events do nothing. A WANTED command is issued again, and waits while
the opener is busy. -/
def Obligations.DryingEnds : Prop :=
  (∀ s : State, (∀ r, s.dyc.run = some r → r.suspended = true ∨
      r.state ≠ .ajar ∧ r.state ≠ .yielding ∧ r.state ≠ .closedDry ∨ r.dryMs < r.dryTime * 1000) →
    exec .dryTimeReached s = .next s) ∧
  (∀ s : State, (∀ r, s.dyc.run = some r → r.suspended = true ∨ r.state ≠ .ajar ∧ r.state ≠ .yielding ∨ r.dryMs < 600000 ∨
      r.humLow < 60) →
    exec .minDryTimeReached s = .next s) ∧
  (∀ (r : DryRun) (o : DryOutcome) (s : State), s.dyc.run = some r → r.suspended = false → r.state = .closedDry →
    r.dryTime * 1000 ≤ r.dryMs → s.wsc.queue = [] → o = (if r.degraded = true then .degraded else .done) →
    ∃ t q, exec .dryTimeReached s = .next t ∧ t.dyc.run = some q ∧ q.state = .ended ∧ q.outcome = some o ∧
      q.fanDemand = false ∧ q.dryMs = r.dryMs ∧ t.dru = { s.dru with dryHold := false } ∧ t.told .dry (.dry o) ∧
      t.wpu.meters = s.wpu.meters ∧
      (s.wsc.wash ≠ .running → { t with lkp := s.lkp, dru := s.dru, dyc := s.dyc } = s) ∧
      (∀ a x, s.wsc.wash = .running → s.wsc.active = some a → a.stage = .drying → s.wsc.ctx = some x → s.cdu.mode = .run →
        t.told .phase (.phase a.record.id) ∧ t.told .program (.program .completed x.total) ∧ t.cdu.mode = .standby ∧
        t.wsc.wash = .idle ∧ t.wsc.active = none)) ∧
  (∀ (r : DryRun) (a : ActivePhase) (p : PhaseRecord) (rest : List PhaseRecord) (s : State), s.dyc.run = some r →
    r.suspended = false → r.state = .closedDry → r.dryTime * 1000 ≤ r.dryMs → s.wsc.queue = p :: rest → p.kind = .drain →
      s.wsc.wash = .running →
    s.wsc.active = some a → a.stage = .drying → s.cdu.mode = .run → s.doorClass = .closed → s.dru.latched = true →
    s.sfu.run = none →
    ∃ t q, exec .dryTimeReached s = .next t ∧ t.dyc.run = some q ∧ q.state = .ended ∧
      q.outcome = some (if r.degraded = true then .degraded else .done) ∧ t.told .phase (.phase a.record.id) ∧
      t.phaseBegun p rest .drain ∧ t.wpu = { s.wpu with drain := some ⟨0, 0⟩, drainPump := true } ∧ t.wsc.ctx = s.wsc.ctx ∧
      t.cdu.mode = .run ∧ t.dru = { s.dru with dryHold := false }) ∧
  (∀ (cmd : Instr) (r : DryRun) (s : State), s.dyc.run = some r → r.suspended = false → r.state = .ajar →
    cmd = .dryTimeReached ∧ r.dryTime * 1000 ≤ r.dryMs ∨ cmd = .minDryTimeReached ∧ 600000 ≤ r.dryMs ∧ 60 ≤ r.humLow →
      s.dru.opener = .extended →
    s.dru.endRetracted = false → s.cdu.mode ≠ .safe →
    ∃ t q, exec cmd s = .next t ∧ t.dyc.run = some q ∧ q.state = .ending ∧ q.stateMs = 0 ∧ q.fanDemand = false ∧
      q.humLow = 0 ∧ q.outstanding = some ⟨.retract, true⟩ ∧ q.outcome = r.outcome ∧
      t.dru = { s.dru with
        opener := .retracting, commanded := .retract, issuer := .dry, phase := some .driving, moveMs := 0
        motor := some .retract } ∧
      { t with dru := s.dru, dyc := s.dyc } = s) ∧
  (∀ s : State, (∀ r, s.dyc.run = some r → r.suspended = true ∨ r.state = .ended ∨ r.outstanding = none ∨
      (∃ c, r.outstanding = some ⟨c, true⟩)) → exec .dryCommandRetry s = .next s) ∧
  (∀ (r : DryRun) (s : State), s.dyc.run = some r → r.suspended = false → r.state = .ending →
    r.outstanding = some ⟨.retract, false⟩ →
    (s.dru.opener = .extending ∨ s.dru.opener = .retracting → exec .dryCommandRetry s = .next s) ∧
    (s.dru.opener = .extended ∨ s.dru.opener = .fault ∨ s.dru.opener = .unknownPosition → s.dru.endRetracted = false →
      s.cdu.mode ≠ .safe →
      exec .dryCommandRetry s = .next { s with
        dyc := { s.dyc with run := some { r with outstanding := some ⟨.retract, true⟩ } }
        dru := { s.dru with
          opener := .retracting, commanded := .retract, issuer := .dry, phase := some .driving, moveMs := 0
          motor := some .retract } }))

/-! ## Service tests -/

/-- O55. TEST_DURATION_EXPIRY and WATER_ABSENT_TIMEOUT (R188, R142): a timed test that has run its amount ends COMPLETED with its
actuator off, and the pump test's end takes the heater test with it, LOST; 2 s without water end both LOST. A test that does not
run, is not timed or has not run its amount, or an inlet test without the grant, is not ended, and neither event does anything
before its figure. -/
def Obligations.ServiceTestsRunOut : Prop :=
  (∀ (a : Actuator) (s : State), s.testing a = false ∨ a.agent ≠ none ∨ a = .diverter ∨ a = .opener ∨
      a = .inlet ∧ s.wpu.grant ≠ some .test ∨ (s.testEntry a).progressMs < (s.testEntry a).amount * 1000 →
    exec (.testDurationExpiry a) s = .next s) ∧
  (∀ (a : Actuator) (s : State), s.testing a = true → a = .drainPump ∨ a = .circPump ∨ a = .heater ∨ a = .fan ∨
      a = .inlet ∧ s.wpu.grant = some .test ∧ s.wpu.waitFill = none →
    (s.testEntry a).amount * 1000 ≤ (s.testEntry a).progressMs →
    ∃ t, exec (.testDurationExpiry a) s = .next t ∧
      t.testEntry a = { s.testEntry a with running := false, outcome := some .completed } ∧
      (∀ b, b ≠ a → a ≠ .circPump ∨ b ≠ .heater → t.testEntry b = s.testEntry b) ∧
      (a = .drainPump → t.wpu.drainPump = false ∧ { t with wpu := s.wpu, cdu := s.cdu } = s) ∧
      (a = .fan → { t with cdu := s.cdu } = s) ∧
      (a = .heater → t.hcu.heat = none ∧ t.hcu.level = 0 ∧ { t with hcu := s.hcu, cdu := s.cdu } = s) ∧
      (a = .circPump → (s.hcu.demand = none → t.hcu.pumpRuns = false) ∧
        (s.testing .heater = true → (t.testEntry .heater).running = false ∧ (t.testEntry .heater).outcome = some .lost ∧
          t.hcu.heat = none) ∧
        { t with hcu := s.hcu, cdu := s.cdu } = s) ∧
      (a = .inlet → t.wpu.meters = s.wpu.meters ∧
        (s.wpu.waitRegen = none → s.wpu.waitTest = none → t.wpu = { s.wpu with grant := none, valveOpen := false }))) ∧
  (∀ s : State, s.wpu.waterPresent = true ∨ s.cdu.dryWaterMs < 2000 → exec .waterAbsentTimeout s = .next s) ∧
  (∀ s : State, s.wpu.waterPresent = false → 2000 ≤ s.cdu.dryWaterMs →
    ∃ t, exec .waterAbsentTimeout s = .next t ∧
      (∀ a, a = .circPump ∨ a = .heater → s.testing a = true →
        (t.testEntry a).running = false ∧ (t.testEntry a).outcome = some .lost) ∧
      (∀ a, s.testing a = false ∨ a ≠ .circPump ∧ a ≠ .heater → t.testEntry a = s.testEntry a) ∧
      (s.testing .circPump = true → s.hcu.demand = none → t.hcu.pumpRuns = false) ∧
      (s.testing .heater = true → t.hcu.heat = none ∧ t.hcu.level = 0) ∧
      { t with hcu := s.hcu, cdu := s.cdu } = s)

/-! ## Rules that every step keeps -/

/-- O56. Every step, by a command or by a millisecond, keeps the balance of the water account, and keeps the inlet valve with the
grant and the inhibit without one (R6, R4, R5). -/
def Obligations.EveryStepKeepsTheAccountAndTheInlet : Prop :=
  ∀ s t : State, step s = .next t →
    (s.accountBalances → t.accountBalances) ∧ (s.inletGuarded → t.inletGuarded)

/-- O57. Every step keeps the tables within their sizes and the receive buffering and the latch in order (R15, R102, R184, R193,
R196). That a reply without a frame in service is an OVERRUN refusal, during which the waiting frame keeps its place, is read from
R193 and 11.8 (log 9). -/
def Obligations.EveryStepKeepsTablesAndBuffers : Prop :=
  ∀ s t : State, step s = .next t →
    (s.tablesBounded → t.tablesBounded) ∧ (s.linkOrdered → t.linkOrdered)

/-- O58. Every step keeps the column records and the supply entries in their ranges, and at most one column IN_SERVICE (R23, R25,
R63). -/
def Obligations.EveryStepKeepsColumnsAndSupplies : Prop :=
  ∀ s t : State, step s = .next t →
    (s.columnsKept → t.columnsKept) ∧ (s.suppliesKept → t.suppliesKept)

/-- O59. Every step keeps the hinge in its range and a closed door at 0, and keeps the rod motor and the solenoid off without a move
(R145 to R147, R150). -/
def Obligations.EveryStepKeepsHingeAndOpener : Prop :=
  ∀ s t : State, step s = .next t →
    (s.hingeKept → t.hingeKept) ∧ (s.openerGuarded → t.openerGuarded)

/-- O60. Every step keeps the mode, the SAFE cause set, the inhibit and the wash in agreement, and the circulation pump off outside
RUN and SERVICE and away from a RETRACTED opener (R182 to R185, R135). -/
def Obligations.EveryStepKeepsModeAndPump : Prop :=
  ∀ s t : State, step s = .next t →
    (s.modeAgrees → t.modeAgrees) ∧ (s.pumpGuarded → t.pumpGuarded)
end

