-- ==== Sys2Proof/Laws/State.lean ====
section
/-! SUPPORT. Views of the blocks that the frame laws speak of. Two records with equal views agree on every field of the view;
`simp [WaterPath.meters]` and the like take an equation of views apart. -/

namespace Sys2Proof.Machine

/-- The three switches of the Water Path Unit (R16, R18). -/
def WaterPath.switches (w : WaterPath) : Bool × Bool × Bool := (w.overfillClosed, w.leakWet, w.waterPresent)

/-- The Link Port but for its attention sources and its supervision timer. -/
def LinkPort.port (l : LinkPort) : LinkPort := { l with sources := Vector.replicate 12 ⟨false, none⟩, supervision := none }

/-- The hinge, the switches and the encoder levels of the Door Unit (8.1, 8.2). -/
def DoorUnit.hinge (d : DoorUnit) : Nat × Bool × Option Direction × Nat × Bool × Bool × Bool × Bool × Bool × Bool :=
  (d.angle, d.referenced, d.direction, d.changes, d.doorClosed, d.latched, d.encA, d.encB, d.endRetracted, d.endExtended)

/-- A pair that is written out names its two parts: what a `let` over a pair leaves in a proof. -/
theorem pair_parts {α β : Type} {p : α × β} {a : α} {b : β} : p = (a, b) ↔ a = p.1 ∧ b = p.2 := by
  constructor
  · rintro rfl
    exact ⟨rfl, rfl⟩
  · rintro ⟨rfl, rfl⟩
    rfl

/-- The hinge does not depend on the drying hold. -/
@[simp] theorem DoorUnit.hinge_dryHold (d : DoorUnit) (b : Bool) : DoorUnit.hinge { d with dryHold := b } = d.hinge := rfl

/-- The switches do not depend on the fill record. -/
@[simp] theorem WaterPath.switches_fillRec (w : WaterPath) (r : Option FillRecord) :
    WaterPath.switches { w with fillRec := r } = w.switches := rfl

/-- A half-cycle leaves the latest reading as it is. -/
@[simp] theorem HeatUnit.nextHalfCycle_temp (h : HeatUnit) : h.nextHalfCycle.temp = h.temp := by
  simp only [HeatUnit.nextHalfCycle, HeatUnit.newWindow]
  (repeat' split) <;> rfl

/-! ## Folds: what every step of a fold leaves unchanged, the fold leaves unchanged -/

/-- A view that every step of a fold keeps is kept by the fold. -/
theorem foldl_view {α β : Type} (v : State → α) (f : State → β → State) (h : ∀ s b, v (f s b) = v s) (l : List β) (s : State) :
    v (l.foldl f s) = v s := by
  induction l generalizing s with
  | nil => rfl
  | cons b rest ih => rw [List.foldl_cons, ih, h]

variable {β : Type} (f : State → β → State) (l : List β) (s : State)

@[simp] theorem foldl_pending (h : ∀ s b, (f s b).pending = s.pending) : (l.foldl f s).pending = s.pending :=
  foldl_view (·.pending) f h l s
@[simp] theorem foldl_uptimeMs (h : ∀ s b, (f s b).uptimeMs = s.uptimeMs) : (l.foldl f s).uptimeMs = s.uptimeMs :=
  foldl_view (·.uptimeMs) f h l s
@[simp] theorem foldl_lkp (h : ∀ s b, (f s b).lkp = s.lkp) : (l.foldl f s).lkp = s.lkp :=
  foldl_view (·.lkp) f h l s
@[simp] theorem foldl_wpu (h : ∀ s b, (f s b).wpu = s.wpu) : (l.foldl f s).wpu = s.wpu :=
  foldl_view (·.wpu) f h l s
@[simp] theorem foldl_sfu (h : ∀ s b, (f s b).sfu = s.sfu) : (l.foldl f s).sfu = s.sfu :=
  foldl_view (·.sfu) f h l s
@[simp] theorem foldl_spt (h : ∀ s b, (f s b).spt = s.spt) : (l.foldl f s).spt = s.spt :=
  foldl_view (·.spt) f h l s
@[simp] theorem foldl_dsu (h : ∀ s b, (f s b).dsu = s.dsu) : (l.foldl f s).dsu = s.dsu :=
  foldl_view (·.dsu) f h l s
@[simp] theorem foldl_wsc (h : ∀ s b, (f s b).wsc = s.wsc) : (l.foldl f s).wsc = s.wsc :=
  foldl_view (·.wsc) f h l s
@[simp] theorem foldl_hcu (h : ∀ s b, (f s b).hcu = s.hcu) : (l.foldl f s).hcu = s.hcu :=
  foldl_view (·.hcu) f h l s
@[simp] theorem foldl_dru (h : ∀ s b, (f s b).dru = s.dru) : (l.foldl f s).dru = s.dru :=
  foldl_view (·.dru) f h l s
@[simp] theorem foldl_dyc (h : ∀ s b, (f s b).dyc = s.dyc) : (l.foldl f s).dyc = s.dyc :=
  foldl_view (·.dyc) f h l s
@[simp] theorem foldl_cdu (h : ∀ s b, (f s b).cdu = s.cdu) : (l.foldl f s).cdu = s.cdu :=
  foldl_view (·.cdu) f h l s
@[simp] theorem foldl_wpu_meters (h : ∀ s b, (f s b).wpu.meters = s.wpu.meters) : (l.foldl f s).wpu.meters = s.wpu.meters :=
  foldl_view (·.wpu.meters) f h l s
@[simp] theorem foldl_lkp_port (h : ∀ s b, (f s b).lkp.port = s.lkp.port) : (l.foldl f s).lkp.port = s.lkp.port :=
  foldl_view (·.lkp.port) f h l s
@[simp] theorem foldl_dru_hinge (h : ∀ s b, (f s b).dru.hinge = s.dru.hinge) : (l.foldl f s).dru.hinge = s.dru.hinge :=
  foldl_view (·.dru.hinge) f h l s
@[simp] theorem foldl_wpu_switches (h : ∀ s b, (f s b).wpu.switches = s.wpu.switches) : (l.foldl f s).wpu.switches = s.wpu.switches :=
  foldl_view (·.wpu.switches) f h l s
@[simp] theorem foldl_wpu_ledger (h : ∀ s b, (f s b).wpu.ledger = s.wpu.ledger) : (l.foldl f s).wpu.ledger = s.wpu.ledger :=
  foldl_view (·.wpu.ledger) f h l s
@[simp] theorem foldl_wpu_settings (h : ∀ s b, (f s b).wpu.settings = s.wpu.settings) : (l.foldl f s).wpu.settings = s.wpu.settings :=
  foldl_view (·.wpu.settings) f h l s
@[simp] theorem foldl_wpu_inhibit (h : ∀ s b, (f s b).wpu.inhibit = s.wpu.inhibit) : (l.foldl f s).wpu.inhibit = s.wpu.inhibit :=
  foldl_view (·.wpu.inhibit) f h l s
@[simp] theorem foldl_wpu_fillRec (h : ∀ s b, (f s b).wpu.fillRec = s.wpu.fillRec) : (l.foldl f s).wpu.fillRec = s.wpu.fillRec :=
  foldl_view (·.wpu.fillRec) f h l s
@[simp] theorem foldl_sfu_settings (h : ∀ s b, (f s b).sfu.settings = s.sfu.settings) : (l.foldl f s).sfu.settings = s.sfu.settings :=
  foldl_view (·.sfu.settings) f h l s
@[simp] theorem foldl_dsu_curve (h : ∀ s b, (f s b).dsu.curve = s.dsu.curve) : (l.foldl f s).dsu.curve = s.dsu.curve :=
  foldl_view (·.dsu.curve) f h l s
@[simp] theorem foldl_dsu_soil (h : ∀ s b, (f s b).dsu.soil = s.dsu.soil) : (l.foldl f s).dsu.soil = s.dsu.soil :=
  foldl_view (·.dsu.soil) f h l s
@[simp] theorem foldl_dyc_settings (h : ∀ s b, (f s b).dyc.settings = s.dyc.settings) : (l.foldl f s).dyc.settings = s.dyc.settings :=
  foldl_view (·.dyc.settings) f h l s
@[simp] theorem foldl_cdu_traps (h : ∀ s b, (f s b).cdu.traps = s.cdu.traps) : (l.foldl f s).cdu.traps = s.cdu.traps :=
  foldl_view (·.cdu.traps) f h l s
@[simp] theorem foldl_cdu_mode (h : ∀ s b, (f s b).cdu.mode = s.cdu.mode) : (l.foldl f s).cdu.mode = s.cdu.mode :=
  foldl_view (·.cdu.mode) f h l s
@[simp] theorem foldl_cdu_safeSet (h : ∀ s b, (f s b).cdu.safeSet = s.cdu.safeSet) : (l.foldl f s).cdu.safeSet = s.cdu.safeSet :=
  foldl_view (·.cdu.safeSet) f h l s
@[simp] theorem foldl_wsc_queue (h : ∀ s b, (f s b).wsc.queue = s.wsc.queue) : (l.foldl f s).wsc.queue = s.wsc.queue :=
  foldl_view (·.wsc.queue) f h l s
@[simp] theorem foldl_wsc_ctx (h : ∀ s b, (f s b).wsc.ctx = s.wsc.ctx) : (l.foldl f s).wsc.ctx = s.wsc.ctx :=
  foldl_view (·.wsc.ctx) f h l s
@[simp] theorem foldl_wsc_active (h : ∀ s b, (f s b).wsc.active = s.wsc.active) : (l.foldl f s).wsc.active = s.wsc.active :=
  foldl_view (·.wsc.active) f h l s
@[simp] theorem foldl_wsc_wash (h : ∀ s b, (f s b).wsc.wash = s.wsc.wash) : (l.foldl f s).wsc.wash = s.wsc.wash :=
  foldl_view (·.wsc.wash) f h l s
@[simp] theorem foldl_hcu_temp (h : ∀ s b, (f s b).hcu.temp = s.hcu.temp) : (l.foldl f s).hcu.temp = s.hcu.temp :=
  foldl_view (·.hcu.temp) f h l s

/-! ## Drying operations in a row -/

/-- A view that an operation keeps is kept where it follows only if the run goes on. -/
theorem ifGoesOn_view {α : Type} (v : State → α) (p : State × Bool) (g : State → State × Bool) (h : ∀ x, v (g x).1 = v x) :
    v (ifGoesOn p g).1 = v p.1 := by
  unfold ifGoesOn
  split
  · rfl
  · exact h p.1

variable (p : State × Bool) (g : State → State × Bool)

@[simp] theorem ifGoesOn_pending (h : ∀ x, (g x).1.pending = x.pending) : (ifGoesOn p g).1.pending = p.1.pending :=
  ifGoesOn_view (·.pending) p g h
@[simp] theorem ifGoesOn_uptimeMs (h : ∀ x, (g x).1.uptimeMs = x.uptimeMs) : (ifGoesOn p g).1.uptimeMs = p.1.uptimeMs :=
  ifGoesOn_view (·.uptimeMs) p g h
@[simp] theorem ifGoesOn_lkp (h : ∀ x, (g x).1.lkp = x.lkp) : (ifGoesOn p g).1.lkp = p.1.lkp :=
  ifGoesOn_view (·.lkp) p g h
@[simp] theorem ifGoesOn_wpu (h : ∀ x, (g x).1.wpu = x.wpu) : (ifGoesOn p g).1.wpu = p.1.wpu :=
  ifGoesOn_view (·.wpu) p g h
@[simp] theorem ifGoesOn_sfu (h : ∀ x, (g x).1.sfu = x.sfu) : (ifGoesOn p g).1.sfu = p.1.sfu :=
  ifGoesOn_view (·.sfu) p g h
@[simp] theorem ifGoesOn_spt (h : ∀ x, (g x).1.spt = x.spt) : (ifGoesOn p g).1.spt = p.1.spt :=
  ifGoesOn_view (·.spt) p g h
@[simp] theorem ifGoesOn_dsu (h : ∀ x, (g x).1.dsu = x.dsu) : (ifGoesOn p g).1.dsu = p.1.dsu :=
  ifGoesOn_view (·.dsu) p g h
@[simp] theorem ifGoesOn_wsc (h : ∀ x, (g x).1.wsc = x.wsc) : (ifGoesOn p g).1.wsc = p.1.wsc :=
  ifGoesOn_view (·.wsc) p g h
@[simp] theorem ifGoesOn_hcu (h : ∀ x, (g x).1.hcu = x.hcu) : (ifGoesOn p g).1.hcu = p.1.hcu :=
  ifGoesOn_view (·.hcu) p g h
@[simp] theorem ifGoesOn_dru (h : ∀ x, (g x).1.dru = x.dru) : (ifGoesOn p g).1.dru = p.1.dru :=
  ifGoesOn_view (·.dru) p g h
@[simp] theorem ifGoesOn_dyc (h : ∀ x, (g x).1.dyc = x.dyc) : (ifGoesOn p g).1.dyc = p.1.dyc :=
  ifGoesOn_view (·.dyc) p g h
@[simp] theorem ifGoesOn_cdu (h : ∀ x, (g x).1.cdu = x.cdu) : (ifGoesOn p g).1.cdu = p.1.cdu :=
  ifGoesOn_view (·.cdu) p g h
@[simp] theorem ifGoesOn_wpu_meters (h : ∀ x, (g x).1.wpu.meters = x.wpu.meters) : (ifGoesOn p g).1.wpu.meters = p.1.wpu.meters :=
  ifGoesOn_view (·.wpu.meters) p g h
@[simp] theorem ifGoesOn_lkp_port (h : ∀ x, (g x).1.lkp.port = x.lkp.port) : (ifGoesOn p g).1.lkp.port = p.1.lkp.port :=
  ifGoesOn_view (·.lkp.port) p g h
@[simp] theorem ifGoesOn_dru_hinge (h : ∀ x, (g x).1.dru.hinge = x.dru.hinge) : (ifGoesOn p g).1.dru.hinge = p.1.dru.hinge :=
  ifGoesOn_view (·.dru.hinge) p g h
@[simp] theorem ifGoesOn_wpu_switches (h : ∀ x, (g x).1.wpu.switches = x.wpu.switches) : (ifGoesOn p g).1.wpu.switches = p.1.wpu.switches :=
  ifGoesOn_view (·.wpu.switches) p g h
@[simp] theorem ifGoesOn_wpu_ledger (h : ∀ x, (g x).1.wpu.ledger = x.wpu.ledger) : (ifGoesOn p g).1.wpu.ledger = p.1.wpu.ledger :=
  ifGoesOn_view (·.wpu.ledger) p g h
@[simp] theorem ifGoesOn_wpu_settings (h : ∀ x, (g x).1.wpu.settings = x.wpu.settings) : (ifGoesOn p g).1.wpu.settings = p.1.wpu.settings :=
  ifGoesOn_view (·.wpu.settings) p g h
@[simp] theorem ifGoesOn_wpu_inhibit (h : ∀ x, (g x).1.wpu.inhibit = x.wpu.inhibit) : (ifGoesOn p g).1.wpu.inhibit = p.1.wpu.inhibit :=
  ifGoesOn_view (·.wpu.inhibit) p g h
@[simp] theorem ifGoesOn_wpu_fillRec (h : ∀ x, (g x).1.wpu.fillRec = x.wpu.fillRec) : (ifGoesOn p g).1.wpu.fillRec = p.1.wpu.fillRec :=
  ifGoesOn_view (·.wpu.fillRec) p g h
@[simp] theorem ifGoesOn_sfu_settings (h : ∀ x, (g x).1.sfu.settings = x.sfu.settings) : (ifGoesOn p g).1.sfu.settings = p.1.sfu.settings :=
  ifGoesOn_view (·.sfu.settings) p g h
@[simp] theorem ifGoesOn_dsu_curve (h : ∀ x, (g x).1.dsu.curve = x.dsu.curve) : (ifGoesOn p g).1.dsu.curve = p.1.dsu.curve :=
  ifGoesOn_view (·.dsu.curve) p g h
@[simp] theorem ifGoesOn_dsu_soil (h : ∀ x, (g x).1.dsu.soil = x.dsu.soil) : (ifGoesOn p g).1.dsu.soil = p.1.dsu.soil :=
  ifGoesOn_view (·.dsu.soil) p g h
@[simp] theorem ifGoesOn_dyc_settings (h : ∀ x, (g x).1.dyc.settings = x.dyc.settings) : (ifGoesOn p g).1.dyc.settings = p.1.dyc.settings :=
  ifGoesOn_view (·.dyc.settings) p g h
@[simp] theorem ifGoesOn_cdu_traps (h : ∀ x, (g x).1.cdu.traps = x.cdu.traps) : (ifGoesOn p g).1.cdu.traps = p.1.cdu.traps :=
  ifGoesOn_view (·.cdu.traps) p g h
@[simp] theorem ifGoesOn_cdu_mode (h : ∀ x, (g x).1.cdu.mode = x.cdu.mode) : (ifGoesOn p g).1.cdu.mode = p.1.cdu.mode :=
  ifGoesOn_view (·.cdu.mode) p g h
@[simp] theorem ifGoesOn_cdu_safeSet (h : ∀ x, (g x).1.cdu.safeSet = x.cdu.safeSet) : (ifGoesOn p g).1.cdu.safeSet = p.1.cdu.safeSet :=
  ifGoesOn_view (·.cdu.safeSet) p g h
@[simp] theorem ifGoesOn_wsc_queue (h : ∀ x, (g x).1.wsc.queue = x.wsc.queue) : (ifGoesOn p g).1.wsc.queue = p.1.wsc.queue :=
  ifGoesOn_view (·.wsc.queue) p g h
@[simp] theorem ifGoesOn_wsc_ctx (h : ∀ x, (g x).1.wsc.ctx = x.wsc.ctx) : (ifGoesOn p g).1.wsc.ctx = p.1.wsc.ctx :=
  ifGoesOn_view (·.wsc.ctx) p g h
@[simp] theorem ifGoesOn_wsc_active (h : ∀ x, (g x).1.wsc.active = x.wsc.active) : (ifGoesOn p g).1.wsc.active = p.1.wsc.active :=
  ifGoesOn_view (·.wsc.active) p g h
@[simp] theorem ifGoesOn_wsc_wash (h : ∀ x, (g x).1.wsc.wash = x.wsc.wash) : (ifGoesOn p g).1.wsc.wash = p.1.wsc.wash :=
  ifGoesOn_view (·.wsc.wash) p g h
@[simp] theorem ifGoesOn_hcu_temp (h : ∀ x, (g x).1.hcu.temp = x.hcu.temp) : (ifGoesOn p g).1.hcu.temp = p.1.hcu.temp :=
  ifGoesOn_view (·.hcu.temp) p g h

end Sys2Proof.Machine
end

