-- ==== Sys2Proof/Laws/FrameOps.lean ====
section
/-! SUPPORT. What the operations of Machine/Ops.lean leave unchanged: one law for each. -/

namespace Sys2Proof.Machine

@[simp] theorem setAttention_frame (src : Source) (sm : Summary) (s : State) :
    (setAttention src sm s).pending = s.pending ∧ (setAttention src sm s).uptimeMs = s.uptimeMs ∧
    (setAttention src sm s).wpu = s.wpu ∧ (setAttention src sm s).sfu = s.sfu ∧ (setAttention src sm s).spt = s.spt ∧
    (setAttention src sm s).dsu = s.dsu ∧ (setAttention src sm s).wsc = s.wsc ∧ (setAttention src sm s).hcu = s.hcu ∧
    (setAttention src sm s).dru = s.dru ∧ (setAttention src sm s).dyc = s.dyc ∧ (setAttention src sm s).cdu = s.cdu ∧
    (setAttention src sm s).lkp.port = s.lkp.port := by
  unfold setAttention
  and_intros <;> rfl

@[simp] theorem recordCondition_frame (c : Condition) (s : State) :
    (recordCondition c s).pending = s.pending ∧ (recordCondition c s).uptimeMs = s.uptimeMs ∧
    (recordCondition c s).wpu = s.wpu ∧ (recordCondition c s).sfu = s.sfu ∧ (recordCondition c s).spt = s.spt ∧
    (recordCondition c s).dsu = s.dsu ∧ (recordCondition c s).wsc = s.wsc ∧ (recordCondition c s).hcu = s.hcu ∧
    (recordCondition c s).dru = s.dru ∧ (recordCondition c s).dyc = s.dyc ∧ (recordCondition c s).lkp.port = s.lkp.port ∧
    (recordCondition c s).cdu.traps = s.cdu.traps ∧ (recordCondition c s).cdu.mode = s.cdu.mode ∧
    (recordCondition c s).cdu.safeSet = s.cdu.safeSet := by
  unfold recordCondition
  simp

@[simp] theorem writeColumn_frame (c : Column) (r : ColumnRecord) (s : State) :
    (writeColumn c r s).pending = s.pending ∧ (writeColumn c r s).uptimeMs = s.uptimeMs ∧ (writeColumn c r s).lkp = s.lkp ∧
    (writeColumn c r s).wpu = s.wpu ∧ (writeColumn c r s).spt = s.spt ∧ (writeColumn c r s).dsu = s.dsu ∧
    (writeColumn c r s).wsc = s.wsc ∧ (writeColumn c r s).hcu = s.hcu ∧ (writeColumn c r s).dru = s.dru ∧
    (writeColumn c r s).dyc = s.dyc ∧ (writeColumn c r s).cdu = s.cdu ∧ (writeColumn c r s).sfu.settings = s.sfu.settings := by
  unfold writeColumn
  (repeat' split) <;> simp

@[simp] theorem putColumn_frame (c : Column) (r : ColumnRecord) (s : State) :
    (putColumn c r s).pending = s.pending ∧ (putColumn c r s).uptimeMs = s.uptimeMs ∧ (putColumn c r s).wpu = s.wpu ∧
    (putColumn c r s).spt = s.spt ∧ (putColumn c r s).dsu = s.dsu ∧ (putColumn c r s).wsc = s.wsc ∧
    (putColumn c r s).hcu = s.hcu ∧ (putColumn c r s).dru = s.dru ∧ (putColumn c r s).dyc = s.dyc ∧
    (putColumn c r s).cdu = s.cdu ∧ (putColumn c r s).lkp.port = s.lkp.port ∧
    (putColumn c r s).sfu.settings = s.sfu.settings := by
  unfold putColumn
  (repeat' split) <;> simp

@[simp] theorem writeEntry_frame (e : Entry) (r : SupplyEntry) (s : State) :
    (writeEntry e r s).pending = s.pending ∧ (writeEntry e r s).uptimeMs = s.uptimeMs ∧ (writeEntry e r s).lkp = s.lkp ∧
    (writeEntry e r s).wpu = s.wpu ∧ (writeEntry e r s).sfu = s.sfu ∧ (writeEntry e r s).dsu = s.dsu ∧
    (writeEntry e r s).wsc = s.wsc ∧ (writeEntry e r s).hcu = s.hcu ∧ (writeEntry e r s).dru = s.dru ∧
    (writeEntry e r s).dyc = s.dyc ∧ (writeEntry e r s).cdu = s.cdu := by
  unfold writeEntry
  (repeat' split) <;> simp

@[simp] theorem putEntry_frame (e : Entry) (r : SupplyEntry) (s : State) :
    (putEntry e r s).pending = s.pending ∧ (putEntry e r s).uptimeMs = s.uptimeMs ∧ (putEntry e r s).wpu = s.wpu ∧
    (putEntry e r s).sfu = s.sfu ∧ (putEntry e r s).dsu = s.dsu ∧ (putEntry e r s).wsc = s.wsc ∧ (putEntry e r s).hcu = s.hcu ∧
    (putEntry e r s).dru = s.dru ∧ (putEntry e r s).dyc = s.dyc ∧ (putEntry e r s).cdu = s.cdu ∧
    (putEntry e r s).lkp.port = s.lkp.port := by
  unfold putEntry
  (repeat' split) <;> simp

@[simp] theorem writeTest_frame (a : Actuator) (t : TestEntry) (s : State) :
    (writeTest a t s).pending = s.pending ∧ (writeTest a t s).uptimeMs = s.uptimeMs ∧ (writeTest a t s).lkp = s.lkp ∧
    (writeTest a t s).wpu = s.wpu ∧ (writeTest a t s).sfu = s.sfu ∧ (writeTest a t s).spt = s.spt ∧
    (writeTest a t s).dsu = s.dsu ∧ (writeTest a t s).wsc = s.wsc ∧ (writeTest a t s).hcu = s.hcu ∧
    (writeTest a t s).dru = s.dru ∧ (writeTest a t s).dyc = s.dyc ∧ (writeTest a t s).cdu.traps = s.cdu.traps ∧
    (writeTest a t s).cdu.mode = s.cdu.mode ∧ (writeTest a t s).cdu.safeSet = s.cdu.safeSet := by
  unfold writeTest
  simp

@[simp] theorem markTestEnded_frame (a : Actuator) (o : TestOutcome) (s : State) :
    (markTestEnded a o s).pending = s.pending ∧ (markTestEnded a o s).uptimeMs = s.uptimeMs ∧
    (markTestEnded a o s).lkp = s.lkp ∧ (markTestEnded a o s).wpu = s.wpu ∧ (markTestEnded a o s).sfu = s.sfu ∧
    (markTestEnded a o s).spt = s.spt ∧ (markTestEnded a o s).dsu = s.dsu ∧ (markTestEnded a o s).wsc = s.wsc ∧
    (markTestEnded a o s).hcu = s.hcu ∧ (markTestEnded a o s).dru = s.dru ∧ (markTestEnded a o s).dyc = s.dyc ∧
    (markTestEnded a o s).cdu.traps = s.cdu.traps ∧ (markTestEnded a o s).cdu.mode = s.cdu.mode ∧
    (markTestEnded a o s).cdu.safeSet = s.cdu.safeSet := by
  unfold markTestEnded
  simp

end Sys2Proof.Machine
end

