-- ==== Sys2Proof/Laws/FrameSupply.lean ====
section
/-! SUPPORT. What the operations of Machine/Supply.lean leave unchanged: one law for each. -/

namespace Sys2Proof.Machine

@[simp] theorem decrementSupply_frame (e : Entry) (amount : Nat) (s : State) :
    (decrementSupply e amount s).pending = s.pending ∧ (decrementSupply e amount s).uptimeMs = s.uptimeMs ∧
    (decrementSupply e amount s).wpu = s.wpu ∧ (decrementSupply e amount s).sfu = s.sfu ∧
    (decrementSupply e amount s).dsu = s.dsu ∧ (decrementSupply e amount s).wsc = s.wsc ∧
    (decrementSupply e amount s).hcu = s.hcu ∧ (decrementSupply e amount s).dru = s.dru ∧
    (decrementSupply e amount s).dyc = s.dyc ∧ (decrementSupply e amount s).cdu = s.cdu ∧
    (decrementSupply e amount s).lkp.port = s.lkp.port := by
  unfold decrementSupply
  dsimp only
  (repeat' split) <;> simp

@[simp] theorem decrementStroke_frame (a : Agent) (s : State) :
    (decrementStroke a s).pending = s.pending ∧ (decrementStroke a s).uptimeMs = s.uptimeMs ∧
    (decrementStroke a s).wpu = s.wpu ∧ (decrementStroke a s).sfu = s.sfu ∧ (decrementStroke a s).dsu = s.dsu ∧
    (decrementStroke a s).wsc = s.wsc ∧ (decrementStroke a s).hcu = s.hcu ∧ (decrementStroke a s).dru = s.dru ∧
    (decrementStroke a s).dyc = s.dyc ∧ (decrementStroke a s).cdu = s.cdu ∧ (decrementStroke a s).lkp.port = s.lkp.port := by
  unfold decrementStroke
  simp

@[simp] theorem openCap_frame (e : Entry) (s : State) :
    (openCap e s).pending = s.pending ∧ (openCap e s).uptimeMs = s.uptimeMs ∧ (openCap e s).wpu = s.wpu ∧
    (openCap e s).sfu = s.sfu ∧ (openCap e s).dsu = s.dsu ∧ (openCap e s).wsc = s.wsc ∧ (openCap e s).hcu = s.hcu ∧
    (openCap e s).dru = s.dru ∧ (openCap e s).dyc = s.dyc ∧ (openCap e s).cdu = s.cdu ∧
    (openCap e s).lkp.port = s.lkp.port := by
  unfold openCap
  simp

@[simp] theorem closeCap_frame (e : Entry) (s : State) :
    (closeCap e s).pending = s.pending ∧ (closeCap e s).uptimeMs = s.uptimeMs ∧ (closeCap e s).wpu = s.wpu ∧
    (closeCap e s).sfu = s.sfu ∧ (closeCap e s).dsu = s.dsu ∧ (closeCap e s).wsc = s.wsc ∧ (closeCap e s).hcu = s.hcu ∧
    (closeCap e s).dru = s.dru ∧ (closeCap e s).dyc = s.dyc ∧ (closeCap e s).cdu = s.cdu ∧
    (closeCap e s).lkp.port = s.lkp.port := by
  unfold closeCap
  simp

@[simp] theorem turnLow_frame (e : Entry) (s : State) :
    (turnLow e s).pending = s.pending ∧ (turnLow e s).uptimeMs = s.uptimeMs ∧ (turnLow e s).wpu = s.wpu ∧
    (turnLow e s).sfu = s.sfu ∧ (turnLow e s).dsu = s.dsu ∧ (turnLow e s).wsc = s.wsc ∧ (turnLow e s).hcu = s.hcu ∧
    (turnLow e s).dru = s.dru ∧ (turnLow e s).dyc = s.dyc ∧ (turnLow e s).cdu = s.cdu ∧
    (turnLow e s).lkp.port = s.lkp.port := by
  unfold turnLow
  simp

@[simp] theorem turnNotLow_frame (e : Entry) (s : State) :
    (turnNotLow e s).pending = s.pending ∧ (turnNotLow e s).uptimeMs = s.uptimeMs ∧ (turnNotLow e s).wpu = s.wpu ∧
    (turnNotLow e s).sfu = s.sfu ∧ (turnNotLow e s).dsu = s.dsu ∧ (turnNotLow e s).wsc = s.wsc ∧ (turnNotLow e s).hcu = s.hcu ∧
    (turnNotLow e s).dru = s.dru ∧ (turnNotLow e s).dyc = s.dyc ∧ (turnNotLow e s).cdu = s.cdu ∧
    (turnNotLow e s).lkp.port = s.lkp.port := by
  unfold turnNotLow
  simp

@[simp] theorem setSupplyRequest_frame (entry capacity estimate lowMark stroke : Nat) (s : State) :
    (setSupplyRequest entry capacity estimate lowMark stroke s).1.pending = s.pending ∧
    (setSupplyRequest entry capacity estimate lowMark stroke s).1.uptimeMs = s.uptimeMs ∧
    (setSupplyRequest entry capacity estimate lowMark stroke s).1.wpu = s.wpu ∧
    (setSupplyRequest entry capacity estimate lowMark stroke s).1.sfu = s.sfu ∧
    (setSupplyRequest entry capacity estimate lowMark stroke s).1.dsu = s.dsu ∧
    (setSupplyRequest entry capacity estimate lowMark stroke s).1.wsc = s.wsc ∧
    (setSupplyRequest entry capacity estimate lowMark stroke s).1.hcu = s.hcu ∧
    (setSupplyRequest entry capacity estimate lowMark stroke s).1.dru = s.dru ∧
    (setSupplyRequest entry capacity estimate lowMark stroke s).1.dyc = s.dyc ∧
    (setSupplyRequest entry capacity estimate lowMark stroke s).1.cdu = s.cdu ∧
    (setSupplyRequest entry capacity estimate lowMark stroke s).1.lkp.port = s.lkp.port := by
  unfold setSupplyRequest
  (repeat' split) <;> simp

@[simp] theorem getSupplyRequest_frame (s : State) :
    (getSupplyRequest s).1.pending = s.pending ∧ (getSupplyRequest s).1.uptimeMs = s.uptimeMs ∧
    (getSupplyRequest s).1.lkp = s.lkp ∧ (getSupplyRequest s).1.wpu = s.wpu ∧ (getSupplyRequest s).1.sfu = s.sfu ∧
    (getSupplyRequest s).1.spt = s.spt ∧ (getSupplyRequest s).1.dsu = s.dsu ∧ (getSupplyRequest s).1.wsc = s.wsc ∧
    (getSupplyRequest s).1.hcu = s.hcu ∧ (getSupplyRequest s).1.dru = s.dru ∧ (getSupplyRequest s).1.dyc = s.dyc ∧
    (getSupplyRequest s).1.cdu = s.cdu := by
  unfold getSupplyRequest
  simp

end Sys2Proof.Machine
end

