-- ==== Sys2Proof/Laws/FrameSoftener.lean ====
section
/-! SUPPORT. What the operations of Machine/Softener.lean leave unchanged: one law for each. -/

namespace Sys2Proof.Machine

@[simp] theorem giveGrant_frame (c : Claimant) (s : State) :
    (giveGrant c s).pending = s.pending ∧ (giveGrant c s).uptimeMs = s.uptimeMs ∧ (giveGrant c s).lkp = s.lkp ∧
    (giveGrant c s).sfu = s.sfu ∧ (giveGrant c s).spt = s.spt ∧ (giveGrant c s).dsu = s.dsu ∧ (giveGrant c s).wsc = s.wsc ∧
    (giveGrant c s).hcu = s.hcu ∧ (giveGrant c s).dru = s.dru ∧ (giveGrant c s).dyc = s.dyc ∧ (giveGrant c s).cdu = s.cdu ∧
    (giveGrant c s).wpu.meters = s.wpu.meters ∧ (giveGrant c s).wpu.switches = s.wpu.switches ∧
    (giveGrant c s).wpu.ledger = s.wpu.ledger ∧ (giveGrant c s).wpu.settings = s.wpu.settings ∧
    (giveGrant c s).wpu.inhibit = s.wpu.inhibit ∧ (giveGrant c s).wpu.fillRec = s.wpu.fillRec := by
  unfold giveGrant
  and_intros <;> rfl

@[simp] theorem freeInlet_frame (s : State) :
    (freeInlet s).pending = s.pending ∧ (freeInlet s).uptimeMs = s.uptimeMs ∧ (freeInlet s).lkp = s.lkp ∧
    (freeInlet s).sfu = s.sfu ∧ (freeInlet s).spt = s.spt ∧ (freeInlet s).dsu = s.dsu ∧ (freeInlet s).wsc = s.wsc ∧
    (freeInlet s).hcu = s.hcu ∧ (freeInlet s).dru = s.dru ∧ (freeInlet s).dyc = s.dyc ∧ (freeInlet s).cdu = s.cdu ∧
    (freeInlet s).wpu.meters = s.wpu.meters ∧ (freeInlet s).wpu.switches = s.wpu.switches ∧
    (freeInlet s).wpu.ledger = s.wpu.ledger ∧ (freeInlet s).wpu.settings = s.wpu.settings ∧
    (freeInlet s).wpu.inhibit = s.wpu.inhibit ∧ (freeInlet s).wpu.fillRec = s.wpu.fillRec := by
  unfold freeInlet
  and_intros <;> rfl

@[simp] theorem takePendingHold_frame (c : Column) (s : State) :
    (takePendingHold c s).pending = s.pending ∧ (takePendingHold c s).uptimeMs = s.uptimeMs ∧
    (takePendingHold c s).wpu = s.wpu ∧ (takePendingHold c s).spt = s.spt ∧ (takePendingHold c s).dsu = s.dsu ∧
    (takePendingHold c s).wsc = s.wsc ∧ (takePendingHold c s).hcu = s.hcu ∧ (takePendingHold c s).dru = s.dru ∧
    (takePendingHold c s).dyc = s.dyc ∧ (takePendingHold c s).cdu = s.cdu ∧ (takePendingHold c s).lkp.port = s.lkp.port ∧
    (takePendingHold c s).sfu.settings = s.sfu.settings := by
  unfold takePendingHold
  dsimp only
  (repeat' split) <;> simp

@[simp] theorem endFillGrant_frame (s : State) :
    (endFillGrant s).pending = s.pending ∧ (endFillGrant s).uptimeMs = s.uptimeMs ∧ (endFillGrant s).wpu = s.wpu ∧
    (endFillGrant s).spt = s.spt ∧ (endFillGrant s).dsu = s.dsu ∧ (endFillGrant s).wsc = s.wsc ∧ (endFillGrant s).hcu = s.hcu ∧
    (endFillGrant s).dru = s.dru ∧ (endFillGrant s).dyc = s.dyc ∧ (endFillGrant s).cdu = s.cdu ∧
    (endFillGrant s).lkp.port = s.lkp.port ∧ (endFillGrant s).sfu.settings = s.sfu.settings := by
  unfold endFillGrant
  simp

@[simp] theorem writeRun_frame (r : RunRecord) (s : State) :
    (writeRun r s).pending = s.pending ∧ (writeRun r s).uptimeMs = s.uptimeMs ∧ (writeRun r s).lkp = s.lkp ∧
    (writeRun r s).wpu = s.wpu ∧ (writeRun r s).spt = s.spt ∧ (writeRun r s).dsu = s.dsu ∧ (writeRun r s).wsc = s.wsc ∧
    (writeRun r s).hcu = s.hcu ∧ (writeRun r s).dru = s.dru ∧ (writeRun r s).dyc = s.dyc ∧ (writeRun r s).cdu = s.cdu ∧
    (writeRun r s).sfu.settings = s.sfu.settings := by
  unfold writeRun
  simp

@[simp] theorem closeStageValves_frame (s : State) :
    (closeStageValves s).pending = s.pending ∧ (closeStageValves s).uptimeMs = s.uptimeMs ∧ (closeStageValves s).lkp = s.lkp ∧
    (closeStageValves s).wpu = s.wpu ∧ (closeStageValves s).spt = s.spt ∧ (closeStageValves s).dsu = s.dsu ∧
    (closeStageValves s).wsc = s.wsc ∧ (closeStageValves s).hcu = s.hcu ∧ (closeStageValves s).dru = s.dru ∧
    (closeStageValves s).dyc = s.dyc ∧ (closeStageValves s).cdu = s.cdu ∧
    (closeStageValves s).sfu.settings = s.sfu.settings := by
  unfold closeStageValves
  simp

@[simp] theorem beginBrine_frame (r : RunRecord) (k : Nat) (s : State) :
    (beginBrine r k s).pending = s.pending ∧ (beginBrine r k s).uptimeMs = s.uptimeMs ∧ (beginBrine r k s).wpu = s.wpu ∧
    (beginBrine r k s).spt = s.spt ∧ (beginBrine r k s).dsu = s.dsu ∧ (beginBrine r k s).wsc = s.wsc ∧
    (beginBrine r k s).hcu = s.hcu ∧ (beginBrine r k s).dru = s.dru ∧ (beginBrine r k s).dyc = s.dyc ∧
    (beginBrine r k s).lkp.port = s.lkp.port ∧ (beginBrine r k s).sfu.settings = s.sfu.settings ∧
    (beginBrine r k s).cdu.traps = s.cdu.traps ∧ (beginBrine r k s).cdu.mode = s.cdu.mode ∧
    (beginBrine r k s).cdu.safeSet = s.cdu.safeSet := by
  unfold beginBrine
  dsimp only
  (repeat' split) <;> simp

@[simp] theorem beginSlow_frame (r : RunRecord) (k : Nat) (s : State) :
    (beginSlow r k s).pending = s.pending ∧ (beginSlow r k s).uptimeMs = s.uptimeMs ∧ (beginSlow r k s).lkp = s.lkp ∧
    (beginSlow r k s).wpu = s.wpu ∧ (beginSlow r k s).spt = s.spt ∧ (beginSlow r k s).dsu = s.dsu ∧
    (beginSlow r k s).wsc = s.wsc ∧ (beginSlow r k s).hcu = s.hcu ∧ (beginSlow r k s).dru = s.dru ∧
    (beginSlow r k s).dyc = s.dyc ∧ (beginSlow r k s).cdu = s.cdu ∧ (beginSlow r k s).sfu.settings = s.sfu.settings := by
  unfold beginSlow
  simp

@[simp] theorem beginFast_frame (r : RunRecord) (k : Nat) (s : State) :
    (beginFast r k s).pending = s.pending ∧ (beginFast r k s).uptimeMs = s.uptimeMs ∧ (beginFast r k s).lkp = s.lkp ∧
    (beginFast r k s).wpu = s.wpu ∧ (beginFast r k s).spt = s.spt ∧ (beginFast r k s).dsu = s.dsu ∧
    (beginFast r k s).wsc = s.wsc ∧ (beginFast r k s).hcu = s.hcu ∧ (beginFast r k s).dru = s.dru ∧
    (beginFast r k s).dyc = s.dyc ∧ (beginFast r k s).cdu = s.cdu ∧ (beginFast r k s).sfu.settings = s.sfu.settings := by
  unfold beginFast
  simp

@[simp] theorem beginStage_frame (st : RegenStage) (s : State) :
    (beginStage st s).pending = s.pending ∧ (beginStage st s).uptimeMs = s.uptimeMs ∧ (beginStage st s).spt = s.spt ∧
    (beginStage st s).dsu = s.dsu ∧ (beginStage st s).wsc = s.wsc ∧ (beginStage st s).hcu = s.hcu ∧
    (beginStage st s).dru = s.dru ∧ (beginStage st s).dyc = s.dyc ∧ (beginStage st s).wpu.meters = s.wpu.meters ∧
    (beginStage st s).lkp.port = s.lkp.port ∧ (beginStage st s).wpu.switches = s.wpu.switches ∧
    (beginStage st s).wpu.ledger = s.wpu.ledger ∧ (beginStage st s).wpu.settings = s.wpu.settings ∧
    (beginStage st s).wpu.inhibit = s.wpu.inhibit ∧ (beginStage st s).wpu.fillRec = s.wpu.fillRec ∧
    (beginStage st s).sfu.settings = s.sfu.settings ∧ (beginStage st s).cdu.traps = s.cdu.traps ∧
    (beginStage st s).cdu.mode = s.cdu.mode ∧ (beginStage st s).cdu.safeSet = s.cdu.safeSet := by
  unfold beginStage
  (try dsimp only) <;> (try and_intros) <;> first
  | (simp; done)
  | (simp; rfl)
  | rfl
  | (repeat' split) <;> first | (simp; done) | (simp; rfl) | rfl | (simp_all [pair_parts]; done) | (simp_all [pair_parts]; rfl)

@[simp] theorem passOnNoFill_frame (s : State) :
    (passOnNoFill s).pending = s.pending ∧ (passOnNoFill s).uptimeMs = s.uptimeMs ∧ (passOnNoFill s).spt = s.spt ∧
    (passOnNoFill s).dsu = s.dsu ∧ (passOnNoFill s).wsc = s.wsc ∧ (passOnNoFill s).hcu = s.hcu ∧ (passOnNoFill s).dru = s.dru ∧
    (passOnNoFill s).dyc = s.dyc ∧ (passOnNoFill s).wpu.meters = s.wpu.meters ∧ (passOnNoFill s).lkp.port = s.lkp.port ∧
    (passOnNoFill s).wpu.switches = s.wpu.switches ∧ (passOnNoFill s).wpu.ledger = s.wpu.ledger ∧
    (passOnNoFill s).wpu.settings = s.wpu.settings ∧ (passOnNoFill s).wpu.inhibit = s.wpu.inhibit ∧
    (passOnNoFill s).wpu.fillRec = s.wpu.fillRec ∧ (passOnNoFill s).sfu.settings = s.sfu.settings ∧
    (passOnNoFill s).cdu.traps = s.cdu.traps ∧ (passOnNoFill s).cdu.mode = s.cdu.mode ∧
    (passOnNoFill s).cdu.safeSet = s.cdu.safeSet := by
  unfold passOnNoFill
  (try dsimp only) <;> (try and_intros) <;> first
  | (simp; done)
  | (simp; rfl)
  | rfl
  | (repeat' split) <;> first | (simp; done) | (simp; rfl) | rfl | (simp_all [pair_parts]; done) | (simp_all [pair_parts]; rfl)

@[simp] theorem chargeSalt_frame (s : State) :
    (chargeSalt s).pending = s.pending ∧ (chargeSalt s).uptimeMs = s.uptimeMs ∧ (chargeSalt s).wpu = s.wpu ∧
    (chargeSalt s).dsu = s.dsu ∧ (chargeSalt s).wsc = s.wsc ∧ (chargeSalt s).hcu = s.hcu ∧ (chargeSalt s).dru = s.dru ∧
    (chargeSalt s).dyc = s.dyc ∧ (chargeSalt s).cdu = s.cdu ∧ (chargeSalt s).lkp.port = s.lkp.port ∧
    (chargeSalt s).sfu.settings = s.sfu.settings := by
  unfold chargeSalt
  (repeat' split) <;> simp

@[simp] theorem endRun_frame (o : RunOutcome) (s : State) :
    (endRun o s).pending = s.pending ∧ (endRun o s).uptimeMs = s.uptimeMs ∧ (endRun o s).wpu = s.wpu ∧
    (endRun o s).spt = s.spt ∧ (endRun o s).dsu = s.dsu ∧ (endRun o s).wsc = s.wsc ∧ (endRun o s).hcu = s.hcu ∧
    (endRun o s).dru = s.dru ∧ (endRun o s).dyc = s.dyc ∧ (endRun o s).cdu = s.cdu ∧ (endRun o s).lkp.port = s.lkp.port ∧
    (endRun o s).sfu.settings = s.sfu.settings := by
  unfold endRun
  (repeat' split) <;> simp

@[simp] theorem dropHead_frame (s : State) :
    (dropHead s).pending = s.pending ∧ (dropHead s).uptimeMs = s.uptimeMs ∧ (dropHead s).lkp = s.lkp ∧
    (dropHead s).wpu = s.wpu ∧ (dropHead s).spt = s.spt ∧ (dropHead s).dsu = s.dsu ∧ (dropHead s).wsc = s.wsc ∧
    (dropHead s).hcu = s.hcu ∧ (dropHead s).dru = s.dru ∧ (dropHead s).dyc = s.dyc ∧ (dropHead s).cdu = s.cdu ∧
    (dropHead s).sfu.settings = s.sfu.settings := by
  unfold dropHead
  simp

@[simp] theorem markRestart_frame (s : State) :
    (markRestart s).pending = s.pending ∧ (markRestart s).uptimeMs = s.uptimeMs ∧ (markRestart s).lkp = s.lkp ∧
    (markRestart s).wpu = s.wpu ∧ (markRestart s).spt = s.spt ∧ (markRestart s).dsu = s.dsu ∧ (markRestart s).wsc = s.wsc ∧
    (markRestart s).hcu = s.hcu ∧ (markRestart s).dru = s.dru ∧ (markRestart s).dyc = s.dyc ∧ (markRestart s).cdu = s.cdu ∧
    (markRestart s).sfu.settings = s.sfu.settings := by
  unfold markRestart
  (repeat' split) <;> simp

@[simp] theorem exhaustAborted_frame (c : Column) (s : State) :
    (exhaustAborted c s).pending = s.pending ∧ (exhaustAborted c s).uptimeMs = s.uptimeMs ∧ (exhaustAborted c s).wpu = s.wpu ∧
    (exhaustAborted c s).spt = s.spt ∧ (exhaustAborted c s).dsu = s.dsu ∧ (exhaustAborted c s).wsc = s.wsc ∧
    (exhaustAborted c s).hcu = s.hcu ∧ (exhaustAborted c s).dru = s.dru ∧ (exhaustAborted c s).dyc = s.dyc ∧
    (exhaustAborted c s).cdu = s.cdu ∧ (exhaustAborted c s).lkp.port = s.lkp.port ∧
    (exhaustAborted c s).sfu.settings = s.sfu.settings := by
  unfold exhaustAborted
  dsimp only
  (repeat' split) <;> simp

@[simp] theorem abortRun_frame (s : State) :
    (abortRun s).pending = s.pending ∧ (abortRun s).uptimeMs = s.uptimeMs ∧ (abortRun s).wpu = s.wpu ∧
    (abortRun s).dsu = s.dsu ∧ (abortRun s).wsc = s.wsc ∧ (abortRun s).hcu = s.hcu ∧ (abortRun s).dru = s.dru ∧
    (abortRun s).dyc = s.dyc ∧ (abortRun s).cdu = s.cdu ∧ (abortRun s).lkp.port = s.lkp.port ∧
    (abortRun s).sfu.settings = s.sfu.settings := by
  unfold abortRun
  (repeat' split) <;> simp

@[simp] theorem waitInlet_frame (st : RegenStage) (s : State) :
    (waitInlet st s).pending = s.pending ∧ (waitInlet st s).uptimeMs = s.uptimeMs ∧ (waitInlet st s).dsu = s.dsu ∧
    (waitInlet st s).wsc = s.wsc ∧ (waitInlet st s).hcu = s.hcu ∧ (waitInlet st s).dru = s.dru ∧ (waitInlet st s).dyc = s.dyc ∧
    (waitInlet st s).wpu.meters = s.wpu.meters ∧ (waitInlet st s).lkp.port = s.lkp.port ∧
    (waitInlet st s).wpu.switches = s.wpu.switches ∧ (waitInlet st s).wpu.ledger = s.wpu.ledger ∧
    (waitInlet st s).wpu.settings = s.wpu.settings ∧ (waitInlet st s).wpu.inhibit = s.wpu.inhibit ∧
    (waitInlet st s).wpu.fillRec = s.wpu.fillRec ∧ (waitInlet st s).sfu.settings = s.sfu.settings ∧
    (waitInlet st s).cdu.traps = s.cdu.traps ∧ (waitInlet st s).cdu.mode = s.cdu.mode ∧
    (waitInlet st s).cdu.safeSet = s.cdu.safeSet := by
  unfold waitInlet
  dsimp only
  and_intros <;> (repeat' split) <;> first | rfl | simp_all

@[simp] theorem windowTest_frame (s : State) :
    (windowTest s).pending = s.pending ∧ (windowTest s).uptimeMs = s.uptimeMs ∧ (windowTest s).dsu = s.dsu ∧
    (windowTest s).wsc = s.wsc ∧ (windowTest s).hcu = s.hcu ∧ (windowTest s).dru = s.dru ∧ (windowTest s).dyc = s.dyc ∧
    (windowTest s).wpu.meters = s.wpu.meters ∧ (windowTest s).lkp.port = s.lkp.port ∧
    (windowTest s).wpu.switches = s.wpu.switches ∧ (windowTest s).wpu.ledger = s.wpu.ledger ∧
    (windowTest s).wpu.settings = s.wpu.settings ∧ (windowTest s).wpu.inhibit = s.wpu.inhibit ∧
    (windowTest s).wpu.fillRec = s.wpu.fillRec ∧ (windowTest s).sfu.settings = s.sfu.settings ∧
    (windowTest s).cdu.traps = s.cdu.traps ∧ (windowTest s).cdu.mode = s.cdu.mode ∧
    (windowTest s).cdu.safeSet = s.cdu.safeSet := by
  unfold windowTest
  (repeat' split) <;> simp

@[simp] theorem startRun_frame (s : State) :
    (startRun s).pending = s.pending ∧ (startRun s).uptimeMs = s.uptimeMs ∧ (startRun s).dsu = s.dsu ∧
    (startRun s).wsc = s.wsc ∧ (startRun s).hcu = s.hcu ∧ (startRun s).dru = s.dru ∧ (startRun s).dyc = s.dyc ∧
    (startRun s).wpu.meters = s.wpu.meters ∧ (startRun s).lkp.port = s.lkp.port ∧ (startRun s).wpu.switches = s.wpu.switches ∧
    (startRun s).wpu.ledger = s.wpu.ledger ∧ (startRun s).wpu.settings = s.wpu.settings ∧
    (startRun s).wpu.inhibit = s.wpu.inhibit ∧ (startRun s).wpu.fillRec = s.wpu.fillRec ∧
    (startRun s).sfu.settings = s.sfu.settings ∧ (startRun s).cdu.traps = s.cdu.traps ∧ (startRun s).cdu.mode = s.cdu.mode ∧
    (startRun s).cdu.safeSet = s.cdu.safeSet := by
  unfold startRun
  (repeat' split) <;> simp

@[simp] theorem appendList_frame (c : Column) (s : State) :
    (appendList c s).pending = s.pending ∧ (appendList c s).uptimeMs = s.uptimeMs ∧ (appendList c s).dsu = s.dsu ∧
    (appendList c s).wsc = s.wsc ∧ (appendList c s).hcu = s.hcu ∧ (appendList c s).dru = s.dru ∧ (appendList c s).dyc = s.dyc ∧
    (appendList c s).wpu.meters = s.wpu.meters ∧ (appendList c s).lkp.port = s.lkp.port ∧
    (appendList c s).wpu.switches = s.wpu.switches ∧ (appendList c s).wpu.ledger = s.wpu.ledger ∧
    (appendList c s).wpu.settings = s.wpu.settings ∧ (appendList c s).wpu.inhibit = s.wpu.inhibit ∧
    (appendList c s).wpu.fillRec = s.wpu.fillRec ∧ (appendList c s).sfu.settings = s.sfu.settings ∧
    (appendList c s).cdu.traps = s.cdu.traps ∧ (appendList c s).cdu.mode = s.cdu.mode ∧
    (appendList c s).cdu.safeSet = s.cdu.safeSet := by
  unfold appendList
  (repeat' split) <;> simp

@[simp] theorem appendAutomatic_frame (c : Column) (s : State) :
    (appendAutomatic c s).pending = s.pending ∧ (appendAutomatic c s).uptimeMs = s.uptimeMs ∧
    (appendAutomatic c s).dsu = s.dsu ∧ (appendAutomatic c s).wsc = s.wsc ∧ (appendAutomatic c s).hcu = s.hcu ∧
    (appendAutomatic c s).dru = s.dru ∧ (appendAutomatic c s).dyc = s.dyc ∧ (appendAutomatic c s).wpu.meters = s.wpu.meters ∧
    (appendAutomatic c s).lkp.port = s.lkp.port ∧ (appendAutomatic c s).wpu.switches = s.wpu.switches ∧
    (appendAutomatic c s).wpu.ledger = s.wpu.ledger ∧ (appendAutomatic c s).wpu.settings = s.wpu.settings ∧
    (appendAutomatic c s).wpu.inhibit = s.wpu.inhibit ∧ (appendAutomatic c s).wpu.fillRec = s.wpu.fillRec ∧
    (appendAutomatic c s).sfu.settings = s.sfu.settings ∧ (appendAutomatic c s).cdu.traps = s.cdu.traps ∧
    (appendAutomatic c s).cdu.mode = s.cdu.mode ∧ (appendAutomatic c s).cdu.safeSet = s.cdu.safeSet := by
  unfold appendAutomatic
  (repeat' split) <;> simp

@[simp] theorem takeColumn_frame (c : Column) (b : Blend) (s : State) :
    (takeColumn c b s).pending = s.pending ∧ (takeColumn c b s).uptimeMs = s.uptimeMs ∧ (takeColumn c b s).wpu = s.wpu ∧
    (takeColumn c b s).spt = s.spt ∧ (takeColumn c b s).dsu = s.dsu ∧ (takeColumn c b s).wsc = s.wsc ∧
    (takeColumn c b s).hcu = s.hcu ∧ (takeColumn c b s).dru = s.dru ∧ (takeColumn c b s).dyc = s.dyc ∧
    (takeColumn c b s).cdu = s.cdu ∧ (takeColumn c b s).lkp.port = s.lkp.port ∧
    (takeColumn c b s).sfu.settings = s.sfu.settings := by
  unfold takeColumn
  simp

@[simp] theorem selectColumn_frame (s : State) :
    (selectColumn s).1.pending = s.pending ∧ (selectColumn s).1.uptimeMs = s.uptimeMs ∧ (selectColumn s).1.wpu = s.wpu ∧
    (selectColumn s).1.spt = s.spt ∧ (selectColumn s).1.dsu = s.dsu ∧ (selectColumn s).1.wsc = s.wsc ∧
    (selectColumn s).1.hcu = s.hcu ∧ (selectColumn s).1.dru = s.dru ∧ (selectColumn s).1.dyc = s.dyc ∧
    (selectColumn s).1.cdu = s.cdu ∧ (selectColumn s).1.lkp.port = s.lkp.port ∧
    (selectColumn s).1.sfu.settings = s.sfu.settings := by
  unfold selectColumn
  (repeat' split) <;> simp

@[simp] theorem setBlendValves_frame (s : State) :
    (setBlendValves s).pending = s.pending ∧ (setBlendValves s).uptimeMs = s.uptimeMs ∧ (setBlendValves s).lkp = s.lkp ∧
    (setBlendValves s).wpu = s.wpu ∧ (setBlendValves s).spt = s.spt ∧ (setBlendValves s).dsu = s.dsu ∧
    (setBlendValves s).wsc = s.wsc ∧ (setBlendValves s).hcu = s.hcu ∧ (setBlendValves s).dru = s.dru ∧
    (setBlendValves s).dyc = s.dyc ∧ (setBlendValves s).cdu = s.cdu ∧ (setBlendValves s).sfu.settings = s.sfu.settings := by
  unfold setBlendValves
  (repeat' split) <;> simp

@[simp] theorem dropRoute_frame (s : State) :
    (dropRoute s).pending = s.pending ∧ (dropRoute s).uptimeMs = s.uptimeMs ∧ (dropRoute s).lkp = s.lkp ∧
    (dropRoute s).wpu = s.wpu ∧ (dropRoute s).spt = s.spt ∧ (dropRoute s).dsu = s.dsu ∧ (dropRoute s).wsc = s.wsc ∧
    (dropRoute s).hcu = s.hcu ∧ (dropRoute s).dru = s.dru ∧ (dropRoute s).dyc = s.dyc ∧ (dropRoute s).cdu = s.cdu ∧
    (dropRoute s).sfu.settings = s.sfu.settings := by
  unfold dropRoute
  simp

@[simp] theorem reselect_frame (s : State) :
    (reselect s).1.pending = s.pending ∧ (reselect s).1.uptimeMs = s.uptimeMs ∧ (reselect s).1.wpu = s.wpu ∧
    (reselect s).1.spt = s.spt ∧ (reselect s).1.dsu = s.dsu ∧ (reselect s).1.wsc = s.wsc ∧ (reselect s).1.hcu = s.hcu ∧
    (reselect s).1.dru = s.dru ∧ (reselect s).1.dyc = s.dyc ∧ (reselect s).1.cdu = s.cdu ∧
    (reselect s).1.lkp.port = s.lkp.port ∧ (reselect s).1.sfu.settings = s.sfu.settings := by
  unfold reselect
  simp

@[simp] theorem exhaustColumn_frame (c : Column) (s : State) :
    (exhaustColumn c s).1.pending = s.pending ∧ (exhaustColumn c s).1.uptimeMs = s.uptimeMs ∧
    (exhaustColumn c s).1.dsu = s.dsu ∧ (exhaustColumn c s).1.wsc = s.wsc ∧ (exhaustColumn c s).1.hcu = s.hcu ∧
    (exhaustColumn c s).1.dru = s.dru ∧ (exhaustColumn c s).1.dyc = s.dyc ∧ (exhaustColumn c s).1.wpu.meters = s.wpu.meters ∧
    (exhaustColumn c s).1.lkp.port = s.lkp.port ∧ (exhaustColumn c s).1.wpu.switches = s.wpu.switches ∧
    (exhaustColumn c s).1.wpu.ledger = s.wpu.ledger ∧ (exhaustColumn c s).1.wpu.settings = s.wpu.settings ∧
    (exhaustColumn c s).1.wpu.inhibit = s.wpu.inhibit ∧ (exhaustColumn c s).1.wpu.fillRec = s.wpu.fillRec ∧
    (exhaustColumn c s).1.sfu.settings = s.sfu.settings ∧ (exhaustColumn c s).1.cdu.traps = s.cdu.traps ∧
    (exhaustColumn c s).1.cdu.mode = s.cdu.mode ∧ (exhaustColumn c s).1.cdu.safeSet = s.cdu.safeSet := by
  unfold exhaustColumn
  dsimp only
  (repeat' split) <;> simp

@[simp] theorem chargeColumn_frame (c : Column) (hRaw k : Nat) (s : State) :
    (chargeColumn c hRaw k s).1.pending = s.pending ∧ (chargeColumn c hRaw k s).1.uptimeMs = s.uptimeMs ∧
    (chargeColumn c hRaw k s).1.dsu = s.dsu ∧ (chargeColumn c hRaw k s).1.wsc = s.wsc ∧
    (chargeColumn c hRaw k s).1.hcu = s.hcu ∧ (chargeColumn c hRaw k s).1.dru = s.dru ∧
    (chargeColumn c hRaw k s).1.dyc = s.dyc ∧ (chargeColumn c hRaw k s).1.wpu.meters = s.wpu.meters ∧
    (chargeColumn c hRaw k s).1.lkp.port = s.lkp.port ∧ (chargeColumn c hRaw k s).1.wpu.switches = s.wpu.switches ∧
    (chargeColumn c hRaw k s).1.wpu.ledger = s.wpu.ledger ∧ (chargeColumn c hRaw k s).1.wpu.settings = s.wpu.settings ∧
    (chargeColumn c hRaw k s).1.wpu.inhibit = s.wpu.inhibit ∧ (chargeColumn c hRaw k s).1.wpu.fillRec = s.wpu.fillRec ∧
    (chargeColumn c hRaw k s).1.sfu.settings = s.sfu.settings ∧ (chargeColumn c hRaw k s).1.cdu.traps = s.cdu.traps ∧
    (chargeColumn c hRaw k s).1.cdu.mode = s.cdu.mode ∧ (chargeColumn c hRaw k s).1.cdu.safeSet = s.cdu.safeSet := by
  unfold chargeColumn
  dsimp only
  (repeat' split) <;> simp

@[simp] theorem sampleColumn_frame (c : Column) (asserted : Bool) (s : State) :
    (sampleColumn c asserted s).1.pending = s.pending ∧ (sampleColumn c asserted s).1.uptimeMs = s.uptimeMs ∧
    (sampleColumn c asserted s).1.dsu = s.dsu ∧ (sampleColumn c asserted s).1.wsc = s.wsc ∧
    (sampleColumn c asserted s).1.hcu = s.hcu ∧ (sampleColumn c asserted s).1.dru = s.dru ∧
    (sampleColumn c asserted s).1.dyc = s.dyc ∧ (sampleColumn c asserted s).1.wpu.meters = s.wpu.meters ∧
    (sampleColumn c asserted s).1.lkp.port = s.lkp.port ∧ (sampleColumn c asserted s).1.wpu.switches = s.wpu.switches ∧
    (sampleColumn c asserted s).1.wpu.ledger = s.wpu.ledger ∧ (sampleColumn c asserted s).1.wpu.settings = s.wpu.settings ∧
    (sampleColumn c asserted s).1.wpu.inhibit = s.wpu.inhibit ∧ (sampleColumn c asserted s).1.wpu.fillRec = s.wpu.fillRec ∧
    (sampleColumn c asserted s).1.sfu.settings = s.sfu.settings ∧ (sampleColumn c asserted s).1.cdu.traps = s.cdu.traps ∧
    (sampleColumn c asserted s).1.cdu.mode = s.cdu.mode ∧ (sampleColumn c asserted s).1.cdu.safeSet = s.cdu.safeSet := by
  unfold sampleColumn
  dsimp only
  (repeat' split) <;> simp

@[simp] theorem boundary_frame (s : State) :
    (boundary s).1.pending = s.pending ∧ (boundary s).1.uptimeMs = s.uptimeMs ∧ (boundary s).1.wpu = s.wpu ∧
    (boundary s).1.spt = s.spt ∧ (boundary s).1.dsu = s.dsu ∧ (boundary s).1.wsc = s.wsc ∧ (boundary s).1.hcu = s.hcu ∧
    (boundary s).1.dru = s.dru ∧ (boundary s).1.dyc = s.dyc ∧ (boundary s).1.cdu = s.cdu ∧
    (boundary s).1.lkp.port = s.lkp.port ∧ (boundary s).1.sfu.settings = s.sfu.settings := by
  unfold boundary
  dsimp only
  (repeat' split) <;> simp

@[simp] theorem routePulse_frame (r : FillRecord) (compA compB : Bool) (s : State) :
    (routePulse r compA compB s).state.pending = s.pending ∧ (routePulse r compA compB s).state.uptimeMs = s.uptimeMs ∧
    (routePulse r compA compB s).state.dsu = s.dsu ∧ (routePulse r compA compB s).state.wsc = s.wsc ∧
    (routePulse r compA compB s).state.hcu = s.hcu ∧ (routePulse r compA compB s).state.dru = s.dru ∧
    (routePulse r compA compB s).state.dyc = s.dyc ∧ (routePulse r compA compB s).state.wpu.meters = s.wpu.meters ∧
    (routePulse r compA compB s).state.lkp.port = s.lkp.port ∧
    (routePulse r compA compB s).state.wpu.switches = s.wpu.switches ∧
    (routePulse r compA compB s).state.wpu.ledger = s.wpu.ledger ∧
    (routePulse r compA compB s).state.wpu.settings = s.wpu.settings ∧
    (routePulse r compA compB s).state.wpu.inhibit = s.wpu.inhibit ∧
    (routePulse r compA compB s).state.wpu.fillRec = s.wpu.fillRec ∧
    (routePulse r compA compB s).state.sfu.settings = s.sfu.settings ∧
    (routePulse r compA compB s).state.cdu.traps = s.cdu.traps ∧ (routePulse r compA compB s).state.cdu.mode = s.cdu.mode ∧
    (routePulse r compA compB s).state.cdu.safeSet = s.cdu.safeSet := by
  unfold routePulse
  dsimp only
  (repeat' split) <;> simp

end Sys2Proof.Machine
end

