-- ==== Sys2Proof/Laws/FrameHeat.lean ====
section
/-! SUPPORT. What the operations of Machine/Heat.lean leave unchanged: one law for each. -/

namespace Sys2Proof.Machine

@[simp] theorem feedZone_frame (z : Zone) (s : State) :
    (feedZone z s).pending = s.pending ∧ (feedZone z s).uptimeMs = s.uptimeMs ∧ (feedZone z s).lkp = s.lkp ∧
    (feedZone z s).wpu = s.wpu ∧ (feedZone z s).sfu = s.sfu ∧ (feedZone z s).spt = s.spt ∧ (feedZone z s).dsu = s.dsu ∧
    (feedZone z s).wsc = s.wsc ∧ (feedZone z s).dru = s.dru ∧ (feedZone z s).dyc = s.dyc ∧ (feedZone z s).cdu = s.cdu ∧
    (feedZone z s).hcu.temp = s.hcu.temp := by
  unfold feedZone
  simp

@[simp] theorem startMove_frame (z : Zone) (s : State) :
    (startMove z s).pending = s.pending ∧ (startMove z s).uptimeMs = s.uptimeMs ∧ (startMove z s).lkp = s.lkp ∧
    (startMove z s).wpu = s.wpu ∧ (startMove z s).sfu = s.sfu ∧ (startMove z s).spt = s.spt ∧ (startMove z s).dsu = s.dsu ∧
    (startMove z s).wsc = s.wsc ∧ (startMove z s).dru = s.dru ∧ (startMove z s).dyc = s.dyc ∧ (startMove z s).cdu = s.cdu ∧
    (startMove z s).hcu.temp = s.hcu.temp := by
  unfold startMove
  simp

@[simp] theorem goToZone_frame (z : Zone) (s : State) :
    (goToZone z s).pending = s.pending ∧ (goToZone z s).uptimeMs = s.uptimeMs ∧ (goToZone z s).lkp = s.lkp ∧
    (goToZone z s).wpu = s.wpu ∧ (goToZone z s).sfu = s.sfu ∧ (goToZone z s).spt = s.spt ∧ (goToZone z s).dsu = s.dsu ∧
    (goToZone z s).wsc = s.wsc ∧ (goToZone z s).dru = s.dru ∧ (goToZone z s).dyc = s.dyc ∧ (goToZone z s).cdu = s.cdu ∧
    (goToZone z s).hcu.temp = s.hcu.temp := by
  unfold goToZone
  (repeat' split) <;> simp

@[simp] theorem chooseZone_frame (s : State) :
    (chooseZone s).pending = s.pending ∧ (chooseZone s).uptimeMs = s.uptimeMs ∧ (chooseZone s).lkp = s.lkp ∧
    (chooseZone s).wpu = s.wpu ∧ (chooseZone s).sfu = s.sfu ∧ (chooseZone s).spt = s.spt ∧ (chooseZone s).dsu = s.dsu ∧
    (chooseZone s).wsc = s.wsc ∧ (chooseZone s).dru = s.dru ∧ (chooseZone s).dyc = s.dyc ∧ (chooseZone s).cdu = s.cdu ∧
    (chooseZone s).hcu.temp = s.hcu.temp := by
  unfold chooseZone
  (repeat' split) <;> simp

@[simp] theorem refreshPump_frame (s : State) :
    (refreshPump s).pending = s.pending ∧ (refreshPump s).uptimeMs = s.uptimeMs ∧ (refreshPump s).lkp = s.lkp ∧
    (refreshPump s).wpu = s.wpu ∧ (refreshPump s).sfu = s.sfu ∧ (refreshPump s).spt = s.spt ∧ (refreshPump s).dsu = s.dsu ∧
    (refreshPump s).wsc = s.wsc ∧ (refreshPump s).dru = s.dru ∧ (refreshPump s).dyc = s.dyc ∧ (refreshPump s).cdu = s.cdu ∧
    (refreshPump s).hcu.temp = s.hcu.temp := by
  unfold refreshPump
  dsimp only
  (repeat' split) <;> simp

@[simp] theorem circulate_frame (speed : Nat) (s : State) :
    (circulate speed s).pending = s.pending ∧ (circulate speed s).uptimeMs = s.uptimeMs ∧ (circulate speed s).lkp = s.lkp ∧
    (circulate speed s).wpu = s.wpu ∧ (circulate speed s).sfu = s.sfu ∧ (circulate speed s).spt = s.spt ∧
    (circulate speed s).dsu = s.dsu ∧ (circulate speed s).wsc = s.wsc ∧ (circulate speed s).dru = s.dru ∧
    (circulate speed s).dyc = s.dyc ∧ (circulate speed s).cdu = s.cdu ∧ (circulate speed s).hcu.temp = s.hcu.temp := by
  unfold circulate
  simp

@[simp] theorem setUpHeat_frame (r : PhaseRecord) (s : State) :
    (setUpHeat r s).pending = s.pending ∧ (setUpHeat r s).uptimeMs = s.uptimeMs ∧ (setUpHeat r s).lkp = s.lkp ∧
    (setUpHeat r s).wpu = s.wpu ∧ (setUpHeat r s).sfu = s.sfu ∧ (setUpHeat r s).spt = s.spt ∧ (setUpHeat r s).dsu = s.dsu ∧
    (setUpHeat r s).wsc = s.wsc ∧ (setUpHeat r s).dru = s.dru ∧ (setUpHeat r s).dyc = s.dyc ∧ (setUpHeat r s).cdu = s.cdu ∧
    (setUpHeat r s).hcu.temp = s.hcu.temp := by
  unfold setUpHeat
  simp

@[simp] theorem stopHeat_frame (s : State) :
    (stopHeat s).pending = s.pending ∧ (stopHeat s).uptimeMs = s.uptimeMs ∧ (stopHeat s).lkp = s.lkp ∧
    (stopHeat s).wpu = s.wpu ∧ (stopHeat s).sfu = s.sfu ∧ (stopHeat s).spt = s.spt ∧ (stopHeat s).dsu = s.dsu ∧
    (stopHeat s).wsc = s.wsc ∧ (stopHeat s).dru = s.dru ∧ (stopHeat s).dyc = s.dyc ∧ (stopHeat s).cdu = s.cdu ∧
    (stopHeat s).hcu.temp = s.hcu.temp := by
  unfold stopHeat
  simp

@[simp] theorem requestHeat_frame (mode : HeatMode) (target : Int) (s : State) :
    (requestHeat mode target s).pending = s.pending ∧ (requestHeat mode target s).uptimeMs = s.uptimeMs ∧
    (requestHeat mode target s).lkp = s.lkp ∧ (requestHeat mode target s).wpu = s.wpu ∧
    (requestHeat mode target s).sfu = s.sfu ∧ (requestHeat mode target s).spt = s.spt ∧
    (requestHeat mode target s).dsu = s.dsu ∧ (requestHeat mode target s).wsc = s.wsc ∧
    (requestHeat mode target s).dru = s.dru ∧ (requestHeat mode target s).dyc = s.dyc ∧
    (requestHeat mode target s).cdu = s.cdu ∧ (requestHeat mode target s).hcu.temp = s.hcu.temp := by
  unfold requestHeat
  simp

@[simp] theorem requestTestHeat_frame (s : State) :
    (requestTestHeat s).pending = s.pending ∧ (requestTestHeat s).uptimeMs = s.uptimeMs ∧ (requestTestHeat s).lkp = s.lkp ∧
    (requestTestHeat s).wpu = s.wpu ∧ (requestTestHeat s).sfu = s.sfu ∧ (requestTestHeat s).spt = s.spt ∧
    (requestTestHeat s).dsu = s.dsu ∧ (requestTestHeat s).wsc = s.wsc ∧ (requestTestHeat s).dru = s.dru ∧
    (requestTestHeat s).dyc = s.dyc ∧ (requestTestHeat s).cdu = s.cdu ∧ (requestTestHeat s).hcu.temp = s.hcu.temp := by
  unfold requestTestHeat
  simp

@[simp] theorem endHeat_frame (s : State) :
    (endHeat s).pending = s.pending ∧ (endHeat s).uptimeMs = s.uptimeMs ∧ (endHeat s).lkp = s.lkp ∧ (endHeat s).wpu = s.wpu ∧
    (endHeat s).sfu = s.sfu ∧ (endHeat s).spt = s.spt ∧ (endHeat s).dsu = s.dsu ∧ (endHeat s).wsc = s.wsc ∧
    (endHeat s).dru = s.dru ∧ (endHeat s).dyc = s.dyc ∧ (endHeat s).cdu = s.cdu ∧ (endHeat s).hcu.temp = s.hcu.temp := by
  unfold endHeat
  simp

@[simp] theorem crossZero_frame (s : State) :
    (crossZero s).pending = s.pending ∧ (crossZero s).uptimeMs = s.uptimeMs ∧ (crossZero s).lkp = s.lkp ∧
    (crossZero s).wpu = s.wpu ∧ (crossZero s).sfu = s.sfu ∧ (crossZero s).spt = s.spt ∧ (crossZero s).dsu = s.dsu ∧
    (crossZero s).wsc = s.wsc ∧ (crossZero s).dru = s.dru ∧ (crossZero s).dyc = s.dyc ∧ (crossZero s).cdu = s.cdu ∧
    (crossZero s).hcu.temp = s.hcu.temp := by
  unfold crossZero
  (repeat' split) <;> simp

@[simp] theorem takeReading_frame (reading : Int) (s : State) :
    (takeReading reading s).pending = s.pending ∧ (takeReading reading s).uptimeMs = s.uptimeMs ∧
    (takeReading reading s).lkp = s.lkp ∧ (takeReading reading s).wpu = s.wpu ∧ (takeReading reading s).sfu = s.sfu ∧
    (takeReading reading s).spt = s.spt ∧ (takeReading reading s).dsu = s.dsu ∧ (takeReading reading s).wsc = s.wsc ∧
    (takeReading reading s).dru = s.dru ∧ (takeReading reading s).dyc = s.dyc ∧ (takeReading reading s).cdu = s.cdu := by
  unfold takeReading
  simp

@[simp] theorem computeLevel_frame (s : State) :
    (computeLevel s).pending = s.pending ∧ (computeLevel s).uptimeMs = s.uptimeMs ∧ (computeLevel s).lkp = s.lkp ∧
    (computeLevel s).wpu = s.wpu ∧ (computeLevel s).sfu = s.sfu ∧ (computeLevel s).spt = s.spt ∧ (computeLevel s).dsu = s.dsu ∧
    (computeLevel s).wsc = s.wsc ∧ (computeLevel s).dru = s.dru ∧ (computeLevel s).dyc = s.dyc ∧ (computeLevel s).cdu = s.cdu ∧
    (computeLevel s).hcu.temp = s.hcu.temp := by
  unfold computeLevel
  simp

@[simp] theorem markReached_frame (s : State) :
    (markReached s).pending = s.pending ∧ (markReached s).uptimeMs = s.uptimeMs ∧ (markReached s).lkp = s.lkp ∧
    (markReached s).wpu = s.wpu ∧ (markReached s).sfu = s.sfu ∧ (markReached s).spt = s.spt ∧ (markReached s).dsu = s.dsu ∧
    (markReached s).wsc = s.wsc ∧ (markReached s).dru = s.dru ∧ (markReached s).dyc = s.dyc ∧ (markReached s).cdu = s.cdu ∧
    (markReached s).hcu.temp = s.hcu.temp := by
  unfold markReached
  simp

@[simp] theorem reportBand_frame (s : State) :
    (reportBand s).pending = s.pending ∧ (reportBand s).uptimeMs = s.uptimeMs ∧ (reportBand s).lkp = s.lkp ∧
    (reportBand s).wpu = s.wpu ∧ (reportBand s).sfu = s.sfu ∧ (reportBand s).spt = s.spt ∧ (reportBand s).dsu = s.dsu ∧
    (reportBand s).wsc = s.wsc ∧ (reportBand s).dru = s.dru ∧ (reportBand s).dyc = s.dyc ∧ (reportBand s).cdu = s.cdu ∧
    (reportBand s).hcu.temp = s.hcu.temp := by
  unfold reportBand
  (repeat' split) <;> simp

@[simp] theorem camMoved_frame (reading : Cam) (s : State) :
    (camMoved reading s).pending = s.pending ∧ (camMoved reading s).uptimeMs = s.uptimeMs ∧ (camMoved reading s).lkp = s.lkp ∧
    (camMoved reading s).wpu = s.wpu ∧ (camMoved reading s).sfu = s.sfu ∧ (camMoved reading s).spt = s.spt ∧
    (camMoved reading s).dsu = s.dsu ∧ (camMoved reading s).wsc = s.wsc ∧ (camMoved reading s).dru = s.dru ∧
    (camMoved reading s).dyc = s.dyc ∧ (camMoved reading s).cdu = s.cdu ∧ (camMoved reading s).hcu.temp = s.hcu.temp := by
  unfold camMoved
  dsimp only
  (repeat' split) <;> simp

@[simp] theorem arriveAt_frame (z : Zone) (s : State) :
    (arriveAt z s).pending = s.pending ∧ (arriveAt z s).uptimeMs = s.uptimeMs ∧ (arriveAt z s).lkp = s.lkp ∧
    (arriveAt z s).wpu = s.wpu ∧ (arriveAt z s).sfu = s.sfu ∧ (arriveAt z s).spt = s.spt ∧ (arriveAt z s).dsu = s.dsu ∧
    (arriveAt z s).wsc = s.wsc ∧ (arriveAt z s).dru = s.dru ∧ (arriveAt z s).dyc = s.dyc ∧ (arriveAt z s).cdu = s.cdu ∧
    (arriveAt z s).hcu.temp = s.hcu.temp := by
  unfold arriveAt
  dsimp only
  (repeat' split) <;> simp

@[simp] theorem nextZoneMove_frame (z : Zone) (s : State) :
    (nextZoneMove z s).pending = s.pending ∧ (nextZoneMove z s).uptimeMs = s.uptimeMs ∧ (nextZoneMove z s).lkp = s.lkp ∧
    (nextZoneMove z s).wpu = s.wpu ∧ (nextZoneMove z s).sfu = s.sfu ∧ (nextZoneMove z s).spt = s.spt ∧
    (nextZoneMove z s).dsu = s.dsu ∧ (nextZoneMove z s).wsc = s.wsc ∧ (nextZoneMove z s).dru = s.dru ∧
    (nextZoneMove z s).dyc = s.dyc ∧ (nextZoneMove z s).cdu = s.cdu ∧ (nextZoneMove z s).hcu.temp = s.hcu.temp := by
  unfold nextZoneMove
  (repeat' split) <;> simp

@[simp] theorem fixAlternation_frame (s : State) :
    (fixAlternation s).pending = s.pending ∧ (fixAlternation s).uptimeMs = s.uptimeMs ∧ (fixAlternation s).lkp = s.lkp ∧
    (fixAlternation s).wpu = s.wpu ∧ (fixAlternation s).sfu = s.sfu ∧ (fixAlternation s).spt = s.spt ∧
    (fixAlternation s).dsu = s.dsu ∧ (fixAlternation s).wsc = s.wsc ∧ (fixAlternation s).dru = s.dru ∧
    (fixAlternation s).dyc = s.dyc ∧ (fixAlternation s).cdu = s.cdu ∧ (fixAlternation s).hcu.temp = s.hcu.temp := by
  unfold fixAlternation
  dsimp only
  (repeat' split) <;> simp

@[simp] theorem dropZone_frame (z : Zone) (s : State) :
    (dropZone z s).pending = s.pending ∧ (dropZone z s).uptimeMs = s.uptimeMs ∧ (dropZone z s).lkp = s.lkp ∧
    (dropZone z s).wpu = s.wpu ∧ (dropZone z s).sfu = s.sfu ∧ (dropZone z s).spt = s.spt ∧ (dropZone z s).dsu = s.dsu ∧
    (dropZone z s).wsc = s.wsc ∧ (dropZone z s).dru = s.dru ∧ (dropZone z s).dyc = s.dyc ∧ (dropZone z s).cdu = s.cdu ∧
    (dropZone z s).hcu.temp = s.hcu.temp := by
  unfold dropZone
  dsimp only
  (repeat' split) <;> simp

@[simp] theorem pulseArm_frame (a : Arm) (s : State) :
    (pulseArm a s).pending = s.pending ∧ (pulseArm a s).uptimeMs = s.uptimeMs ∧ (pulseArm a s).lkp = s.lkp ∧
    (pulseArm a s).wpu = s.wpu ∧ (pulseArm a s).sfu = s.sfu ∧ (pulseArm a s).spt = s.spt ∧ (pulseArm a s).dsu = s.dsu ∧
    (pulseArm a s).wsc = s.wsc ∧ (pulseArm a s).dru = s.dru ∧ (pulseArm a s).dyc = s.dyc ∧ (pulseArm a s).cdu = s.cdu ∧
    (pulseArm a s).hcu.temp = s.hcu.temp := by
  unfold pulseArm
  (repeat' split) <;> simp

@[simp] theorem askClass_frame (s : State) :
    (askClass s).pending = s.pending ∧ (askClass s).uptimeMs = s.uptimeMs ∧ (askClass s).lkp = s.lkp ∧
    (askClass s).wpu = s.wpu ∧ (askClass s).sfu = s.sfu ∧ (askClass s).spt = s.spt ∧ (askClass s).dsu = s.dsu ∧
    (askClass s).wsc = s.wsc ∧ (askClass s).dru = s.dru ∧ (askClass s).dyc = s.dyc ∧ (askClass s).cdu = s.cdu ∧
    (askClass s).hcu.temp = s.hcu.temp := by
  unfold askClass
  simp

@[simp] theorem writeClass_frame (readings : List Nat) (s : State) :
    (writeClass readings s).pending = s.pending ∧ (writeClass readings s).uptimeMs = s.uptimeMs ∧
    (writeClass readings s).lkp = s.lkp ∧ (writeClass readings s).wpu = s.wpu ∧ (writeClass readings s).sfu = s.sfu ∧
    (writeClass readings s).spt = s.spt ∧ (writeClass readings s).dsu = s.dsu ∧ (writeClass readings s).dru = s.dru ∧
    (writeClass readings s).dyc = s.dyc ∧ (writeClass readings s).cdu = s.cdu ∧
    (writeClass readings s).wsc.queue = s.wsc.queue ∧ (writeClass readings s).wsc.active = s.wsc.active ∧
    (writeClass readings s).wsc.wash = s.wsc.wash ∧ (writeClass readings s).hcu.temp = s.hcu.temp := by
  unfold writeClass
  simp

end Sys2Proof.Machine
end

