-- ==== Sys2Proof/Laws/FrameDosing.lean ====
section
/-! SUPPORT. What the operations of Machine/Dosing.lean leave unchanged: one law for each. -/

namespace Sys2Proof.Machine

@[simp] theorem writeLive_frame (l : List DoseRecord) (s : State) :
    (writeLive l s).pending = s.pending ∧ (writeLive l s).uptimeMs = s.uptimeMs ∧ (writeLive l s).lkp = s.lkp ∧
    (writeLive l s).wpu = s.wpu ∧ (writeLive l s).sfu = s.sfu ∧ (writeLive l s).spt = s.spt ∧ (writeLive l s).wsc = s.wsc ∧
    (writeLive l s).hcu = s.hcu ∧ (writeLive l s).dru = s.dru ∧ (writeLive l s).dyc = s.dyc ∧ (writeLive l s).cdu = s.cdu ∧
    (writeLive l s).dsu.curve = s.dsu.curve ∧ (writeLive l s).dsu.soil = s.dsu.soil := by
  unfold writeLive
  simp

@[simp] theorem restate_frame (s : State) :
    (restate s).pending = s.pending ∧ (restate s).uptimeMs = s.uptimeMs ∧ (restate s).lkp = s.lkp ∧ (restate s).wpu = s.wpu ∧
    (restate s).sfu = s.sfu ∧ (restate s).spt = s.spt ∧ (restate s).wsc = s.wsc ∧ (restate s).hcu = s.hcu ∧
    (restate s).dru = s.dru ∧ (restate s).dyc = s.dyc ∧ (restate s).cdu = s.cdu ∧ (restate s).dsu.curve = s.dsu.curve ∧
    (restate s).dsu.soil = s.dsu.soil := by
  unfold restate
  (repeat' split) <;> simp

@[simp] theorem suspendDoses_frame (s : State) :
    (suspendDoses s).pending = s.pending ∧ (suspendDoses s).uptimeMs = s.uptimeMs ∧ (suspendDoses s).lkp = s.lkp ∧
    (suspendDoses s).wpu = s.wpu ∧ (suspendDoses s).sfu = s.sfu ∧ (suspendDoses s).spt = s.spt ∧ (suspendDoses s).wsc = s.wsc ∧
    (suspendDoses s).hcu = s.hcu ∧ (suspendDoses s).dru = s.dru ∧ (suspendDoses s).dyc = s.dyc ∧ (suspendDoses s).cdu = s.cdu ∧
    (suspendDoses s).dsu.curve = s.dsu.curve ∧ (suspendDoses s).dsu.soil = s.dsu.soil := by
  unfold suspendDoses
  simp

@[simp] theorem editDose_frame (a : Agent) (f : DoseRecord → DoseRecord) (s : State) :
    (editDose a f s).pending = s.pending ∧ (editDose a f s).uptimeMs = s.uptimeMs ∧ (editDose a f s).lkp = s.lkp ∧
    (editDose a f s).wpu = s.wpu ∧ (editDose a f s).sfu = s.sfu ∧ (editDose a f s).spt = s.spt ∧ (editDose a f s).wsc = s.wsc ∧
    (editDose a f s).hcu = s.hcu ∧ (editDose a f s).dru = s.dru ∧ (editDose a f s).dyc = s.dyc ∧ (editDose a f s).cdu = s.cdu ∧
    (editDose a f s).dsu.curve = s.dsu.curve ∧ (editDose a f s).dsu.soil = s.dsu.soil := by
  unfold editDose
  simp

@[simp] theorem setShortfall_frame (s : State) :
    (setShortfall s).pending = s.pending ∧ (setShortfall s).uptimeMs = s.uptimeMs ∧ (setShortfall s).lkp = s.lkp ∧
    (setShortfall s).wpu = s.wpu ∧ (setShortfall s).sfu = s.sfu ∧ (setShortfall s).spt = s.spt ∧ (setShortfall s).dsu = s.dsu ∧
    (setShortfall s).hcu = s.hcu ∧ (setShortfall s).dru = s.dru ∧ (setShortfall s).dyc = s.dyc ∧ (setShortfall s).cdu = s.cdu ∧
    (setShortfall s).wsc.queue = s.wsc.queue ∧ (setShortfall s).wsc.active = s.wsc.active ∧
    (setShortfall s).wsc.wash = s.wsc.wash := by
  unfold setShortfall
  simp

@[simp] theorem endDose_frame (a : Agent) (o : DoseState) (s : State) :
    (endDose a o s).pending = s.pending ∧ (endDose a o s).uptimeMs = s.uptimeMs ∧ (endDose a o s).wpu = s.wpu ∧
    (endDose a o s).sfu = s.sfu ∧ (endDose a o s).spt = s.spt ∧ (endDose a o s).hcu = s.hcu ∧ (endDose a o s).dru = s.dru ∧
    (endDose a o s).dyc = s.dyc ∧ (endDose a o s).cdu = s.cdu ∧ (endDose a o s).lkp.port = s.lkp.port ∧
    (endDose a o s).dsu.curve = s.dsu.curve ∧ (endDose a o s).dsu.soil = s.dsu.soil ∧ (endDose a o s).wsc.queue = s.wsc.queue ∧
    (endDose a o s).wsc.active = s.wsc.active ∧ (endDose a o s).wsc.wash = s.wsc.wash := by
  unfold endDose
  (repeat' split) <;> simp

@[simp] theorem removeDoses_frame (s : State) :
    (removeDoses s).pending = s.pending ∧ (removeDoses s).uptimeMs = s.uptimeMs ∧ (removeDoses s).lkp = s.lkp ∧
    (removeDoses s).wpu = s.wpu ∧ (removeDoses s).sfu = s.sfu ∧ (removeDoses s).spt = s.spt ∧ (removeDoses s).wsc = s.wsc ∧
    (removeDoses s).hcu = s.hcu ∧ (removeDoses s).dru = s.dru ∧ (removeDoses s).dyc = s.dyc ∧ (removeDoses s).cdu = s.cdu ∧
    (removeDoses s).dsu.curve = s.dsu.curve ∧ (removeDoses s).dsu.soil = s.dsu.soil := by
  unfold removeDoses
  simp

@[simp] theorem orphanStroke_frame (a : Agent) (s : State) :
    (orphanStroke a s).pending = s.pending ∧ (orphanStroke a s).uptimeMs = s.uptimeMs ∧ (orphanStroke a s).lkp = s.lkp ∧
    (orphanStroke a s).wpu = s.wpu ∧ (orphanStroke a s).sfu = s.sfu ∧ (orphanStroke a s).spt = s.spt ∧
    (orphanStroke a s).wsc = s.wsc ∧ (orphanStroke a s).hcu = s.hcu ∧ (orphanStroke a s).dru = s.dru ∧
    (orphanStroke a s).dyc = s.dyc ∧ (orphanStroke a s).cdu = s.cdu ∧ (orphanStroke a s).dsu.curve = s.dsu.curve ∧
    (orphanStroke a s).dsu.soil = s.dsu.soil := by
  unfold orphanStroke
  simp

@[simp] theorem dropDose_frame (a : Agent) (s : State) :
    (dropDose a s).pending = s.pending ∧ (dropDose a s).uptimeMs = s.uptimeMs ∧ (dropDose a s).wpu = s.wpu ∧
    (dropDose a s).sfu = s.sfu ∧ (dropDose a s).spt = s.spt ∧ (dropDose a s).hcu = s.hcu ∧ (dropDose a s).dru = s.dru ∧
    (dropDose a s).dyc = s.dyc ∧ (dropDose a s).cdu = s.cdu ∧ (dropDose a s).lkp.port = s.lkp.port ∧
    (dropDose a s).dsu.curve = s.dsu.curve ∧ (dropDose a s).dsu.soil = s.dsu.soil ∧ (dropDose a s).wsc.queue = s.wsc.queue ∧
    (dropDose a s).wsc.active = s.wsc.active ∧ (dropDose a s).wsc.wash = s.wsc.wash := by
  unfold dropDose
  (repeat' split) <;> simp

@[simp] theorem discardDoses_frame (s : State) :
    (discardDoses s).pending = s.pending ∧ (discardDoses s).uptimeMs = s.uptimeMs ∧ (discardDoses s).lkp = s.lkp ∧
    (discardDoses s).wpu = s.wpu ∧ (discardDoses s).sfu = s.sfu ∧ (discardDoses s).spt = s.spt ∧ (discardDoses s).wsc = s.wsc ∧
    (discardDoses s).hcu = s.hcu ∧ (discardDoses s).dru = s.dru ∧ (discardDoses s).dyc = s.dyc ∧ (discardDoses s).cdu = s.cdu ∧
    (discardDoses s).dsu.curve = s.dsu.curve ∧ (discardDoses s).dsu.soil = s.dsu.soil := by
  unfold discardDoses
  simp

@[simp] theorem countTest_frame (f : DoseTest → DoseTest) (s : State) :
    (countTest f s).pending = s.pending ∧ (countTest f s).uptimeMs = s.uptimeMs ∧ (countTest f s).lkp = s.lkp ∧
    (countTest f s).wpu = s.wpu ∧ (countTest f s).sfu = s.sfu ∧ (countTest f s).spt = s.spt ∧ (countTest f s).wsc = s.wsc ∧
    (countTest f s).hcu = s.hcu ∧ (countTest f s).dru = s.dru ∧ (countTest f s).dyc = s.dyc ∧
    (countTest f s).dsu.curve = s.dsu.curve ∧ (countTest f s).dsu.soil = s.dsu.soil ∧ (countTest f s).cdu.traps = s.cdu.traps ∧
    (countTest f s).cdu.mode = s.cdu.mode ∧ (countTest f s).cdu.safeSet = s.cdu.safeSet := by
  unfold countTest
  (repeat' split) <;> simp

@[simp] theorem driveStroke_frame (a : Agent) (serves : FlightFor) (s : State) :
    (driveStroke a serves s).pending = s.pending ∧ (driveStroke a serves s).uptimeMs = s.uptimeMs ∧ (driveStroke a serves s).lkp = s.lkp ∧
    (driveStroke a serves s).wpu = s.wpu ∧ (driveStroke a serves s).sfu = s.sfu ∧ (driveStroke a serves s).spt = s.spt ∧
    (driveStroke a serves s).wsc = s.wsc ∧ (driveStroke a serves s).hcu = s.hcu ∧ (driveStroke a serves s).dru = s.dru ∧
    (driveStroke a serves s).dyc = s.dyc ∧ (driveStroke a serves s).dsu.curve = s.dsu.curve ∧
    (driveStroke a serves s).dsu.soil = s.dsu.soil ∧ (driveStroke a serves s).cdu.traps = s.cdu.traps ∧
    (driveStroke a serves s).cdu.mode = s.cdu.mode ∧ (driveStroke a serves s).cdu.safeSet = s.cdu.safeSet := by
  unfold driveStroke
  (repeat' split) <;> simp

@[simp] theorem confirmDose_frame (a : Agent) (s : State) :
    (confirmDose a s).pending = s.pending ∧ (confirmDose a s).uptimeMs = s.uptimeMs ∧ (confirmDose a s).wpu = s.wpu ∧
    (confirmDose a s).sfu = s.sfu ∧ (confirmDose a s).spt = s.spt ∧ (confirmDose a s).hcu = s.hcu ∧
    (confirmDose a s).dru = s.dru ∧ (confirmDose a s).dyc = s.dyc ∧ (confirmDose a s).cdu = s.cdu ∧
    (confirmDose a s).lkp.port = s.lkp.port ∧ (confirmDose a s).dsu.curve = s.dsu.curve ∧
    (confirmDose a s).dsu.soil = s.dsu.soil ∧ (confirmDose a s).wsc.queue = s.wsc.queue ∧
    (confirmDose a s).wsc.active = s.wsc.active ∧ (confirmDose a s).wsc.wash = s.wsc.wash := by
  unfold confirmDose
  dsimp only
  (repeat' split) <;> simp

@[simp] theorem confirmStroke_frame (f : Flight) (s : State) :
    (confirmStroke f s).pending = s.pending ∧ (confirmStroke f s).uptimeMs = s.uptimeMs ∧ (confirmStroke f s).wpu = s.wpu ∧
    (confirmStroke f s).sfu = s.sfu ∧ (confirmStroke f s).hcu = s.hcu ∧ (confirmStroke f s).dru = s.dru ∧
    (confirmStroke f s).dyc = s.dyc ∧ (confirmStroke f s).lkp.port = s.lkp.port ∧ (confirmStroke f s).dsu.curve = s.dsu.curve ∧
    (confirmStroke f s).dsu.soil = s.dsu.soil ∧ (confirmStroke f s).cdu.traps = s.cdu.traps ∧
    (confirmStroke f s).cdu.mode = s.cdu.mode ∧ (confirmStroke f s).cdu.safeSet = s.cdu.safeSet ∧
    (confirmStroke f s).wsc.queue = s.wsc.queue ∧ (confirmStroke f s).wsc.active = s.wsc.active ∧
    (confirmStroke f s).wsc.wash = s.wsc.wash := by
  unfold confirmStroke
  (repeat' split) <;> simp

@[simp] theorem startDoseTest_frame (a : Agent) (strokes : Nat) (s : State) :
    (startDoseTest a strokes s).pending = s.pending ∧ (startDoseTest a strokes s).uptimeMs = s.uptimeMs ∧
    (startDoseTest a strokes s).lkp = s.lkp ∧ (startDoseTest a strokes s).wpu = s.wpu ∧
    (startDoseTest a strokes s).sfu = s.sfu ∧ (startDoseTest a strokes s).spt = s.spt ∧
    (startDoseTest a strokes s).wsc = s.wsc ∧ (startDoseTest a strokes s).hcu = s.hcu ∧
    (startDoseTest a strokes s).dru = s.dru ∧ (startDoseTest a strokes s).dyc = s.dyc ∧
    (startDoseTest a strokes s).cdu = s.cdu ∧ (startDoseTest a strokes s).dsu.curve = s.dsu.curve ∧
    (startDoseTest a strokes s).dsu.soil = s.dsu.soil := by
  unfold startDoseTest
  simp

@[simp] theorem stopDoseTest_frame (s : State) :
    (stopDoseTest s).pending = s.pending ∧ (stopDoseTest s).uptimeMs = s.uptimeMs ∧ (stopDoseTest s).lkp = s.lkp ∧
    (stopDoseTest s).wpu = s.wpu ∧ (stopDoseTest s).sfu = s.sfu ∧ (stopDoseTest s).spt = s.spt ∧ (stopDoseTest s).wsc = s.wsc ∧
    (stopDoseTest s).hcu = s.hcu ∧ (stopDoseTest s).dru = s.dru ∧ (stopDoseTest s).dyc = s.dyc ∧ (stopDoseTest s).cdu = s.cdu ∧
    (stopDoseTest s).dsu.curve = s.dsu.curve ∧ (stopDoseTest s).dsu.soil = s.dsu.soil := by
  unfold stopDoseTest
  simp

@[simp] theorem loadCurveRequest_frame (points : List (Nat × Nat)) (s : State) :
    (loadCurveRequest points s).1.pending = s.pending ∧ (loadCurveRequest points s).1.uptimeMs = s.uptimeMs ∧
    (loadCurveRequest points s).1.lkp = s.lkp ∧ (loadCurveRequest points s).1.wpu = s.wpu ∧
    (loadCurveRequest points s).1.sfu = s.sfu ∧ (loadCurveRequest points s).1.spt = s.spt ∧
    (loadCurveRequest points s).1.wsc = s.wsc ∧ (loadCurveRequest points s).1.hcu = s.hcu ∧
    (loadCurveRequest points s).1.dru = s.dru ∧ (loadCurveRequest points s).1.dyc = s.dyc ∧
    (loadCurveRequest points s).1.cdu = s.cdu ∧ (loadCurveRequest points s).1.dsu.soil = s.dsu.soil := by
  unfold loadCurveRequest
  (repeat' split) <;> simp

@[simp] theorem loadSoilRequest_frame (thresholds factors : List Nat) (s : State) :
    (loadSoilRequest thresholds factors s).1.pending = s.pending ∧
    (loadSoilRequest thresholds factors s).1.uptimeMs = s.uptimeMs ∧ (loadSoilRequest thresholds factors s).1.lkp = s.lkp ∧
    (loadSoilRequest thresholds factors s).1.wpu = s.wpu ∧ (loadSoilRequest thresholds factors s).1.sfu = s.sfu ∧
    (loadSoilRequest thresholds factors s).1.spt = s.spt ∧ (loadSoilRequest thresholds factors s).1.wsc = s.wsc ∧
    (loadSoilRequest thresholds factors s).1.hcu = s.hcu ∧ (loadSoilRequest thresholds factors s).1.dru = s.dru ∧
    (loadSoilRequest thresholds factors s).1.dyc = s.dyc ∧ (loadSoilRequest thresholds factors s).1.cdu = s.cdu ∧
    (loadSoilRequest thresholds factors s).1.dsu.curve = s.dsu.curve := by
  unfold loadSoilRequest
  (repeat' split) <;> simp

@[simp] theorem getDosesRequest_frame (s : State) :
    (getDosesRequest s).1.pending = s.pending ∧ (getDosesRequest s).1.uptimeMs = s.uptimeMs ∧
    (getDosesRequest s).1.lkp = s.lkp ∧ (getDosesRequest s).1.wpu = s.wpu ∧ (getDosesRequest s).1.sfu = s.sfu ∧
    (getDosesRequest s).1.spt = s.spt ∧ (getDosesRequest s).1.dsu = s.dsu ∧ (getDosesRequest s).1.wsc = s.wsc ∧
    (getDosesRequest s).1.hcu = s.hcu ∧ (getDosesRequest s).1.dru = s.dru ∧ (getDosesRequest s).1.dyc = s.dyc ∧
    (getDosesRequest s).1.cdu = s.cdu := by
  unfold getDosesRequest
  simp

end Sys2Proof.Machine
end

