-- ==== Sys2Proof/Laws/FrameDoor.lean ====
section
/-! SUPPORT. What the operations of Machine/Door.lean leave unchanged: one law for each. -/

namespace Sys2Proof.Machine

@[simp] theorem countHinge_frame (d : Direction) (s : State) :
    (countHinge d s).pending = s.pending ∧ (countHinge d s).uptimeMs = s.uptimeMs ∧ (countHinge d s).lkp = s.lkp ∧
    (countHinge d s).wpu = s.wpu ∧ (countHinge d s).sfu = s.sfu ∧ (countHinge d s).spt = s.spt ∧ (countHinge d s).dsu = s.dsu ∧
    (countHinge d s).wsc = s.wsc ∧ (countHinge d s).hcu = s.hcu ∧ (countHinge d s).dyc = s.dyc ∧
    (countHinge d s).cdu = s.cdu := by
  unfold countHinge
  simp

@[simp] theorem setLevel_frame (c : Channel) (rising : Bool) (s : State) :
    (setLevel c rising s).pending = s.pending ∧ (setLevel c rising s).uptimeMs = s.uptimeMs ∧
    (setLevel c rising s).lkp = s.lkp ∧ (setLevel c rising s).wpu = s.wpu ∧ (setLevel c rising s).sfu = s.sfu ∧
    (setLevel c rising s).spt = s.spt ∧ (setLevel c rising s).dsu = s.dsu ∧ (setLevel c rising s).wsc = s.wsc ∧
    (setLevel c rising s).hcu = s.hcu ∧ (setLevel c rising s).dyc = s.dyc ∧ (setLevel c rising s).cdu = s.cdu := by
  unfold setLevel
  (repeat' split) <;> simp

@[simp] theorem takeEdge_frame (c : Channel) (rising : Bool) (s : State) :
    (takeEdge c rising s).pending = s.pending ∧ (takeEdge c rising s).uptimeMs = s.uptimeMs ∧
    (takeEdge c rising s).lkp = s.lkp ∧ (takeEdge c rising s).wpu = s.wpu ∧ (takeEdge c rising s).sfu = s.sfu ∧
    (takeEdge c rising s).spt = s.spt ∧ (takeEdge c rising s).dsu = s.dsu ∧ (takeEdge c rising s).wsc = s.wsc ∧
    (takeEdge c rising s).hcu = s.hcu ∧ (takeEdge c rising s).dyc = s.dyc ∧ (takeEdge c rising s).cdu = s.cdu := by
  unfold takeEdge
  simp

@[simp] theorem settleDoor_frame (closed : Bool) (s : State) :
    (settleDoor closed s).pending = s.pending ∧ (settleDoor closed s).uptimeMs = s.uptimeMs ∧
    (settleDoor closed s).lkp = s.lkp ∧ (settleDoor closed s).wpu = s.wpu ∧ (settleDoor closed s).sfu = s.sfu ∧
    (settleDoor closed s).spt = s.spt ∧ (settleDoor closed s).dsu = s.dsu ∧ (settleDoor closed s).wsc = s.wsc ∧
    (settleDoor closed s).hcu = s.hcu ∧ (settleDoor closed s).dyc = s.dyc ∧ (settleDoor closed s).cdu = s.cdu := by
  unfold settleDoor
  simp

@[simp] theorem noticeDoor_frame (s : State) :
    (noticeDoor s).pending = s.pending ∧ (noticeDoor s).uptimeMs = s.uptimeMs ∧ (noticeDoor s).wpu = s.wpu ∧
    (noticeDoor s).sfu = s.sfu ∧ (noticeDoor s).spt = s.spt ∧ (noticeDoor s).dsu = s.dsu ∧ (noticeDoor s).wsc = s.wsc ∧
    (noticeDoor s).hcu = s.hcu ∧ (noticeDoor s).dru = s.dru ∧ (noticeDoor s).dyc = s.dyc ∧ (noticeDoor s).cdu = s.cdu ∧
    (noticeDoor s).lkp.port = s.lkp.port := by
  unfold noticeDoor
  simp

@[simp] theorem reportMove_frame (o : MoveOutcome) (s : State) :
    (reportMove o s).pending = s.pending ∧ (reportMove o s).uptimeMs = s.uptimeMs ∧ (reportMove o s).wpu = s.wpu ∧
    (reportMove o s).sfu = s.sfu ∧ (reportMove o s).spt = s.spt ∧ (reportMove o s).dsu = s.dsu ∧ (reportMove o s).wsc = s.wsc ∧
    (reportMove o s).hcu = s.hcu ∧ (reportMove o s).dru = s.dru ∧ (reportMove o s).dyc = s.dyc ∧
    (reportMove o s).lkp.port = s.lkp.port ∧ (reportMove o s).cdu.traps = s.cdu.traps ∧ (reportMove o s).cdu.mode = s.cdu.mode ∧
    (reportMove o s).cdu.safeSet = s.cdu.safeSet := by
  unfold reportMove
  (repeat' split) <;> simp

@[simp] theorem endMove_frame (st : OpenerState) (o : MoveOutcome) (s : State) :
    (endMove st o s).pending = s.pending ∧ (endMove st o s).uptimeMs = s.uptimeMs ∧ (endMove st o s).wpu = s.wpu ∧
    (endMove st o s).sfu = s.sfu ∧ (endMove st o s).spt = s.spt ∧ (endMove st o s).dsu = s.dsu ∧ (endMove st o s).wsc = s.wsc ∧
    (endMove st o s).dyc = s.dyc ∧ (endMove st o s).lkp.port = s.lkp.port ∧ (endMove st o s).dru.hinge = s.dru.hinge ∧
    (endMove st o s).cdu.traps = s.cdu.traps ∧ (endMove st o s).cdu.mode = s.cdu.mode ∧
    (endMove st o s).cdu.safeSet = s.cdu.safeSet ∧ (endMove st o s).hcu.temp = s.hcu.temp := by
  unfold endMove
  (try dsimp only) <;> (try and_intros) <;> first
  | (simp; done)
  | (simp; rfl)
  | rfl
  | (repeat' split) <;> first | (simp; done) | (simp; rfl) | rfl | (simp_all [pair_parts]; done) | (simp_all [pair_parts]; rfl)

@[simp] theorem stopMove_frame (s : State) :
    (stopMove s).pending = s.pending ∧ (stopMove s).uptimeMs = s.uptimeMs ∧ (stopMove s).wpu = s.wpu ∧
    (stopMove s).sfu = s.sfu ∧ (stopMove s).spt = s.spt ∧ (stopMove s).dsu = s.dsu ∧ (stopMove s).wsc = s.wsc ∧
    (stopMove s).dyc = s.dyc ∧ (stopMove s).lkp.port = s.lkp.port ∧ (stopMove s).dru.hinge = s.dru.hinge ∧
    (stopMove s).cdu.traps = s.cdu.traps ∧ (stopMove s).cdu.mode = s.cdu.mode ∧ (stopMove s).cdu.safeSet = s.cdu.safeSet ∧
    (stopMove s).hcu.temp = s.hcu.temp := by
  unfold stopMove
  (repeat' split) <;> simp

@[simp] theorem driveOut_frame (s : State) :
    (driveOut s).1.pending = s.pending ∧ (driveOut s).1.uptimeMs = s.uptimeMs ∧ (driveOut s).1.wpu = s.wpu ∧
    (driveOut s).1.sfu = s.sfu ∧ (driveOut s).1.spt = s.spt ∧ (driveOut s).1.dsu = s.dsu ∧ (driveOut s).1.wsc = s.wsc ∧
    (driveOut s).1.dyc = s.dyc ∧ (driveOut s).1.lkp.port = s.lkp.port ∧ (driveOut s).1.dru.hinge = s.dru.hinge ∧
    (driveOut s).1.cdu.traps = s.cdu.traps ∧ (driveOut s).1.cdu.mode = s.cdu.mode ∧ (driveOut s).1.cdu.safeSet = s.cdu.safeSet ∧
    (driveOut s).1.hcu.temp = s.hcu.temp := by
  unfold driveOut
  (try dsimp only) <;> (try and_intros) <;> first
  | (simp; done)
  | (simp; rfl)
  | rfl
  | (repeat' split) <;> first | (simp; done) | (simp; rfl) | rfl | (simp_all [pair_parts]; done) | (simp_all [pair_parts]; rfl)

@[simp] theorem driveIn_frame (s : State) :
    (driveIn s).1.pending = s.pending ∧ (driveIn s).1.uptimeMs = s.uptimeMs ∧ (driveIn s).1.wpu = s.wpu ∧
    (driveIn s).1.sfu = s.sfu ∧ (driveIn s).1.spt = s.spt ∧ (driveIn s).1.dsu = s.dsu ∧ (driveIn s).1.wsc = s.wsc ∧
    (driveIn s).1.dyc = s.dyc ∧ (driveIn s).1.lkp.port = s.lkp.port ∧ (driveIn s).1.dru.hinge = s.dru.hinge ∧
    (driveIn s).1.cdu.traps = s.cdu.traps ∧ (driveIn s).1.cdu.mode = s.cdu.mode ∧ (driveIn s).1.cdu.safeSet = s.cdu.safeSet ∧
    (driveIn s).1.hcu.temp = s.hcu.temp := by
  unfold driveIn
  (try dsimp only) <;> (try and_intros) <;> first
  | (simp; done)
  | (simp; rfl)
  | rfl
  | (repeat' split) <;> first | (simp; done) | (simp; rfl) | rfl | (simp_all [pair_parts]; done) | (simp_all [pair_parts]; rfl)

@[simp] theorem beginExtend_frame (s : State) :
    (beginExtend s).1.pending = s.pending ∧ (beginExtend s).1.uptimeMs = s.uptimeMs ∧ (beginExtend s).1.wpu = s.wpu ∧
    (beginExtend s).1.sfu = s.sfu ∧ (beginExtend s).1.spt = s.spt ∧ (beginExtend s).1.dsu = s.dsu ∧
    (beginExtend s).1.wsc = s.wsc ∧ (beginExtend s).1.dyc = s.dyc ∧ (beginExtend s).1.lkp.port = s.lkp.port ∧
    (beginExtend s).1.dru.hinge = s.dru.hinge ∧ (beginExtend s).1.cdu.traps = s.cdu.traps ∧
    (beginExtend s).1.cdu.mode = s.cdu.mode ∧ (beginExtend s).1.cdu.safeSet = s.cdu.safeSet ∧
    (beginExtend s).1.hcu.temp = s.hcu.temp := by
  unfold beginExtend
  (try dsimp only) <;> (try and_intros) <;> first
  | (simp; done)
  | (simp; rfl)
  | rfl
  | (repeat' split) <;> first | (simp; done) | (simp; rfl) | rfl | (simp_all [pair_parts]; done) | (simp_all [pair_parts]; rfl)

@[simp] theorem beginRetract_frame (s : State) :
    (beginRetract s).1.pending = s.pending ∧ (beginRetract s).1.uptimeMs = s.uptimeMs ∧ (beginRetract s).1.wpu = s.wpu ∧
    (beginRetract s).1.sfu = s.sfu ∧ (beginRetract s).1.spt = s.spt ∧ (beginRetract s).1.dsu = s.dsu ∧
    (beginRetract s).1.wsc = s.wsc ∧ (beginRetract s).1.dyc = s.dyc ∧ (beginRetract s).1.lkp.port = s.lkp.port ∧
    (beginRetract s).1.dru.hinge = s.dru.hinge ∧ (beginRetract s).1.cdu.traps = s.cdu.traps ∧
    (beginRetract s).1.cdu.mode = s.cdu.mode ∧ (beginRetract s).1.cdu.safeSet = s.cdu.safeSet ∧
    (beginRetract s).1.hcu.temp = s.hcu.temp := by
  unfold beginRetract
  (try dsimp only) <;> (try and_intros) <;> first
  | (simp; done)
  | (simp; rfl)
  | rfl
  | (repeat' split) <;> first | (simp; done) | (simp; rfl) | rfl | (simp_all [pair_parts]; done) | (simp_all [pair_parts]; rfl)

@[simp] theorem commandOpener_frame (by_ : Issuer) (cmd : OpenerCmd) (s : State) :
    (commandOpener by_ cmd s).1.pending = s.pending ∧ (commandOpener by_ cmd s).1.uptimeMs = s.uptimeMs ∧
    (commandOpener by_ cmd s).1.wpu = s.wpu ∧ (commandOpener by_ cmd s).1.sfu = s.sfu ∧
    (commandOpener by_ cmd s).1.spt = s.spt ∧ (commandOpener by_ cmd s).1.dsu = s.dsu ∧
    (commandOpener by_ cmd s).1.wsc = s.wsc ∧ (commandOpener by_ cmd s).1.dyc = s.dyc ∧
    (commandOpener by_ cmd s).1.lkp.port = s.lkp.port ∧ (commandOpener by_ cmd s).1.dru.hinge = s.dru.hinge ∧
    (commandOpener by_ cmd s).1.cdu.traps = s.cdu.traps ∧ (commandOpener by_ cmd s).1.cdu.mode = s.cdu.mode ∧
    (commandOpener by_ cmd s).1.cdu.safeSet = s.cdu.safeSet ∧ (commandOpener by_ cmd s).1.hcu.temp = s.hcu.temp := by
  unfold commandOpener
  (try dsimp only) <;> (try and_intros) <;> first
  | (simp; done)
  | (simp; rfl)
  | rfl
  | (repeat' split) <;> first | (simp; done) | (simp; rfl) | rfl | (simp_all [pair_parts]; done) | (simp_all [pair_parts]; rfl)

@[simp] theorem openerRequest_frame (position : Nat) (s : State) :
    (openerRequest position s).1.pending = s.pending ∧ (openerRequest position s).1.uptimeMs = s.uptimeMs ∧
    (openerRequest position s).1.wpu = s.wpu ∧ (openerRequest position s).1.sfu = s.sfu ∧
    (openerRequest position s).1.spt = s.spt ∧ (openerRequest position s).1.dsu = s.dsu ∧
    (openerRequest position s).1.wsc = s.wsc ∧ (openerRequest position s).1.dyc = s.dyc ∧
    (openerRequest position s).1.lkp.port = s.lkp.port ∧ (openerRequest position s).1.dru.hinge = s.dru.hinge ∧
    (openerRequest position s).1.cdu.traps = s.cdu.traps ∧ (openerRequest position s).1.cdu.mode = s.cdu.mode ∧
    (openerRequest position s).1.cdu.safeSet = s.cdu.safeSet ∧ (openerRequest position s).1.hcu.temp = s.hcu.temp := by
  unfold openerRequest
  (repeat' split) <;> simp_all [pair_parts]

@[simp] theorem getDoorRequest_frame (s : State) :
    (getDoorRequest s).1.pending = s.pending ∧ (getDoorRequest s).1.uptimeMs = s.uptimeMs ∧ (getDoorRequest s).1.lkp = s.lkp ∧
    (getDoorRequest s).1.wpu = s.wpu ∧ (getDoorRequest s).1.sfu = s.sfu ∧ (getDoorRequest s).1.spt = s.spt ∧
    (getDoorRequest s).1.dsu = s.dsu ∧ (getDoorRequest s).1.wsc = s.wsc ∧ (getDoorRequest s).1.hcu = s.hcu ∧
    (getDoorRequest s).1.dru = s.dru ∧ (getDoorRequest s).1.dyc = s.dyc ∧ (getDoorRequest s).1.cdu = s.cdu := by
  unfold getDoorRequest
  simp

end Sys2Proof.Machine
end

