-- ==== Sys2Proof/Laws/FrameDry.lean ====
section
/-! SUPPORT. What the operations of Machine/Dry.lean leave unchanged: one law for each. -/

namespace Sys2Proof.Machine

@[simp] theorem writeDry_frame (r : DryRun) (s : State) :
    (writeDry r s).pending = s.pending ∧ (writeDry r s).uptimeMs = s.uptimeMs ∧ (writeDry r s).lkp = s.lkp ∧
    (writeDry r s).wpu = s.wpu ∧ (writeDry r s).sfu = s.sfu ∧ (writeDry r s).spt = s.spt ∧ (writeDry r s).dsu = s.dsu ∧
    (writeDry r s).wsc = s.wsc ∧ (writeDry r s).hcu = s.hcu ∧ (writeDry r s).dru = s.dru ∧ (writeDry r s).cdu = s.cdu ∧
    (writeDry r s).dyc.settings = s.dyc.settings := by
  unfold writeDry
  simp

@[simp] theorem editDry_frame (f : DryRun → DryRun) (s : State) :
    (editDry f s).pending = s.pending ∧ (editDry f s).uptimeMs = s.uptimeMs ∧ (editDry f s).lkp = s.lkp ∧
    (editDry f s).wpu = s.wpu ∧ (editDry f s).sfu = s.sfu ∧ (editDry f s).spt = s.spt ∧ (editDry f s).dsu = s.dsu ∧
    (editDry f s).wsc = s.wsc ∧ (editDry f s).hcu = s.hcu ∧ (editDry f s).dru = s.dru ∧ (editDry f s).cdu = s.cdu ∧
    (editDry f s).dyc.settings = s.dyc.settings := by
  unfold editDry
  simp

@[simp] theorem endDry_frame (o : DryOutcome) (s : State) :
    (endDry o s).pending = s.pending ∧ (endDry o s).uptimeMs = s.uptimeMs ∧ (endDry o s).wpu = s.wpu ∧
    (endDry o s).sfu = s.sfu ∧ (endDry o s).spt = s.spt ∧ (endDry o s).dsu = s.dsu ∧ (endDry o s).wsc = s.wsc ∧
    (endDry o s).hcu = s.hcu ∧ (endDry o s).cdu = s.cdu ∧ (endDry o s).lkp.port = s.lkp.port ∧
    (endDry o s).dru.hinge = s.dru.hinge ∧ (endDry o s).dyc.settings = s.dyc.settings := by
  unfold endDry
  simp

@[simp] theorem dryEnds_frame (o : DryOutcome) (s : State) :
    (dryEnds o s).1.pending = s.pending ∧ (dryEnds o s).1.uptimeMs = s.uptimeMs ∧ (dryEnds o s).1.wpu = s.wpu ∧
    (dryEnds o s).1.sfu = s.sfu ∧ (dryEnds o s).1.spt = s.spt ∧ (dryEnds o s).1.dsu = s.dsu ∧ (dryEnds o s).1.wsc = s.wsc ∧
    (dryEnds o s).1.hcu = s.hcu ∧ (dryEnds o s).1.cdu = s.cdu ∧ (dryEnds o s).1.lkp.port = s.lkp.port ∧
    (dryEnds o s).1.dru.hinge = s.dru.hinge ∧ (dryEnds o s).1.dyc.settings = s.dyc.settings := by
  unfold dryEnds
  simp

@[simp] theorem dryGoesOn_frame (s : State) :
    (dryGoesOn s).1.pending = s.pending ∧ (dryGoesOn s).1.uptimeMs = s.uptimeMs ∧ (dryGoesOn s).1.lkp = s.lkp ∧
    (dryGoesOn s).1.wpu = s.wpu ∧ (dryGoesOn s).1.sfu = s.sfu ∧ (dryGoesOn s).1.spt = s.spt ∧ (dryGoesOn s).1.dsu = s.dsu ∧
    (dryGoesOn s).1.wsc = s.wsc ∧ (dryGoesOn s).1.hcu = s.hcu ∧ (dryGoesOn s).1.dru = s.dru ∧ (dryGoesOn s).1.dyc = s.dyc ∧
    (dryGoesOn s).1.cdu = s.cdu := by
  unfold dryGoesOn
  simp

@[simp] theorem setOutstanding_frame (o : Option Outstanding) (s : State) :
    (setOutstanding o s).pending = s.pending ∧ (setOutstanding o s).uptimeMs = s.uptimeMs ∧ (setOutstanding o s).lkp = s.lkp ∧
    (setOutstanding o s).wpu = s.wpu ∧ (setOutstanding o s).sfu = s.sfu ∧ (setOutstanding o s).spt = s.spt ∧
    (setOutstanding o s).dsu = s.dsu ∧ (setOutstanding o s).wsc = s.wsc ∧ (setOutstanding o s).hcu = s.hcu ∧
    (setOutstanding o s).dru = s.dru ∧ (setOutstanding o s).cdu = s.cdu ∧
    (setOutstanding o s).dyc.settings = s.dyc.settings := by
  unfold setOutstanding
  simp

@[simp] theorem issueDry_frame (cmd : OpenerCmd) (s : State) :
    (issueDry cmd s).1.pending = s.pending ∧ (issueDry cmd s).1.uptimeMs = s.uptimeMs ∧ (issueDry cmd s).1.wpu = s.wpu ∧
    (issueDry cmd s).1.sfu = s.sfu ∧ (issueDry cmd s).1.spt = s.spt ∧ (issueDry cmd s).1.dsu = s.dsu ∧
    (issueDry cmd s).1.wsc = s.wsc ∧ (issueDry cmd s).1.lkp.port = s.lkp.port ∧ (issueDry cmd s).1.dru.hinge = s.dru.hinge ∧
    (issueDry cmd s).1.dyc.settings = s.dyc.settings ∧ (issueDry cmd s).1.cdu.traps = s.cdu.traps ∧
    (issueDry cmd s).1.cdu.mode = s.cdu.mode ∧ (issueDry cmd s).1.cdu.safeSet = s.cdu.safeSet ∧
    (issueDry cmd s).1.hcu.temp = s.hcu.temp := by
  unfold issueDry
  (repeat' split) <;> simp_all [pair_parts]

@[simp] theorem retractAndEnd_frame (o : DryOutcome) (s : State) :
    (retractAndEnd o s).1.pending = s.pending ∧ (retractAndEnd o s).1.uptimeMs = s.uptimeMs ∧
    (retractAndEnd o s).1.wpu = s.wpu ∧ (retractAndEnd o s).1.sfu = s.sfu ∧ (retractAndEnd o s).1.spt = s.spt ∧
    (retractAndEnd o s).1.dsu = s.dsu ∧ (retractAndEnd o s).1.wsc = s.wsc ∧ (retractAndEnd o s).1.lkp.port = s.lkp.port ∧
    (retractAndEnd o s).1.dru.hinge = s.dru.hinge ∧ (retractAndEnd o s).1.dyc.settings = s.dyc.settings ∧
    (retractAndEnd o s).1.cdu.traps = s.cdu.traps ∧ (retractAndEnd o s).1.cdu.mode = s.cdu.mode ∧
    (retractAndEnd o s).1.cdu.safeSet = s.cdu.safeSet ∧ (retractAndEnd o s).1.hcu.temp = s.hcu.temp := by
  unfold retractAndEnd
  (repeat' split) <;> simp

@[simp] theorem classInAjar_frame (cls : DoorClass) (s : State) :
    (classInAjar cls s).1.pending = s.pending ∧ (classInAjar cls s).1.uptimeMs = s.uptimeMs ∧
    (classInAjar cls s).1.wpu = s.wpu ∧ (classInAjar cls s).1.sfu = s.sfu ∧ (classInAjar cls s).1.spt = s.spt ∧
    (classInAjar cls s).1.dsu = s.dsu ∧ (classInAjar cls s).1.wsc = s.wsc ∧ (classInAjar cls s).1.lkp.port = s.lkp.port ∧
    (classInAjar cls s).1.dru.hinge = s.dru.hinge ∧ (classInAjar cls s).1.dyc.settings = s.dyc.settings ∧
    (classInAjar cls s).1.cdu.traps = s.cdu.traps ∧ (classInAjar cls s).1.cdu.mode = s.cdu.mode ∧
    (classInAjar cls s).1.cdu.safeSet = s.cdu.safeSet ∧ (classInAjar cls s).1.hcu.temp = s.hcu.temp := by
  unfold classInAjar
  (repeat' split) <;> simp

@[simp] theorem enterAjar_frame (s : State) :
    (enterAjar s).1.pending = s.pending ∧ (enterAjar s).1.uptimeMs = s.uptimeMs ∧ (enterAjar s).1.wpu = s.wpu ∧
    (enterAjar s).1.sfu = s.sfu ∧ (enterAjar s).1.spt = s.spt ∧ (enterAjar s).1.dsu = s.dsu ∧ (enterAjar s).1.wsc = s.wsc ∧
    (enterAjar s).1.lkp.port = s.lkp.port ∧ (enterAjar s).1.dru.hinge = s.dru.hinge ∧
    (enterAjar s).1.dyc.settings = s.dyc.settings ∧ (enterAjar s).1.cdu.traps = s.cdu.traps ∧
    (enterAjar s).1.cdu.mode = s.cdu.mode ∧ (enterAjar s).1.cdu.safeSet = s.cdu.safeSet ∧
    (enterAjar s).1.hcu.temp = s.hcu.temp := by
  unfold enterAjar
  simp

@[simp] theorem fallBack_frame (s : State) :
    (fallBack s).1.pending = s.pending ∧ (fallBack s).1.uptimeMs = s.uptimeMs ∧ (fallBack s).1.wpu = s.wpu ∧
    (fallBack s).1.sfu = s.sfu ∧ (fallBack s).1.spt = s.spt ∧ (fallBack s).1.dsu = s.dsu ∧ (fallBack s).1.wsc = s.wsc ∧
    (fallBack s).1.hcu = s.hcu ∧ (fallBack s).1.cdu = s.cdu ∧ (fallBack s).1.lkp.port = s.lkp.port ∧
    (fallBack s).1.dru.hinge = s.dru.hinge ∧ (fallBack s).1.dyc.settings = s.dyc.settings := by
  unfold fallBack
  dsimp only
  (repeat' split) <;> simp

@[simp] theorem wantExtend_frame (s : State) :
    (wantExtend s).1.pending = s.pending ∧ (wantExtend s).1.uptimeMs = s.uptimeMs ∧ (wantExtend s).1.wpu = s.wpu ∧
    (wantExtend s).1.sfu = s.sfu ∧ (wantExtend s).1.spt = s.spt ∧ (wantExtend s).1.dsu = s.dsu ∧ (wantExtend s).1.wsc = s.wsc ∧
    (wantExtend s).1.lkp.port = s.lkp.port ∧ (wantExtend s).1.dru.hinge = s.dru.hinge ∧
    (wantExtend s).1.dyc.settings = s.dyc.settings ∧ (wantExtend s).1.cdu.traps = s.cdu.traps ∧
    (wantExtend s).1.cdu.mode = s.cdu.mode ∧ (wantExtend s).1.cdu.safeSet = s.cdu.safeSet ∧
    (wantExtend s).1.hcu.temp = s.hcu.temp := by
  unfold wantExtend
  (repeat' split) <;> simp_all [pair_parts]

@[simp] theorem wantRetractFirst_frame (s : State) :
    (wantRetractFirst s).1.pending = s.pending ∧ (wantRetractFirst s).1.uptimeMs = s.uptimeMs ∧
    (wantRetractFirst s).1.wpu = s.wpu ∧ (wantRetractFirst s).1.sfu = s.sfu ∧ (wantRetractFirst s).1.spt = s.spt ∧
    (wantRetractFirst s).1.dsu = s.dsu ∧ (wantRetractFirst s).1.wsc = s.wsc ∧ (wantRetractFirst s).1.lkp.port = s.lkp.port ∧
    (wantRetractFirst s).1.dru.hinge = s.dru.hinge ∧ (wantRetractFirst s).1.dyc.settings = s.dyc.settings ∧
    (wantRetractFirst s).1.cdu.traps = s.cdu.traps ∧ (wantRetractFirst s).1.cdu.mode = s.cdu.mode ∧
    (wantRetractFirst s).1.cdu.safeSet = s.cdu.safeSet ∧ (wantRetractFirst s).1.hcu.temp = s.hcu.temp := by
  unfold wantRetractFirst
  (repeat' split) <;> simp_all [pair_parts]

@[simp] theorem enterOpening_frame (s : State) :
    (enterOpening s).1.pending = s.pending ∧ (enterOpening s).1.uptimeMs = s.uptimeMs ∧ (enterOpening s).1.wpu = s.wpu ∧
    (enterOpening s).1.sfu = s.sfu ∧ (enterOpening s).1.spt = s.spt ∧ (enterOpening s).1.dsu = s.dsu ∧
    (enterOpening s).1.wsc = s.wsc ∧ (enterOpening s).1.lkp.port = s.lkp.port ∧ (enterOpening s).1.dru.hinge = s.dru.hinge ∧
    (enterOpening s).1.dyc.settings = s.dyc.settings ∧ (enterOpening s).1.cdu.traps = s.cdu.traps ∧
    (enterOpening s).1.cdu.mode = s.cdu.mode ∧ (enterOpening s).1.cdu.safeSet = s.cdu.safeSet ∧
    (enterOpening s).1.hcu.temp = s.hcu.temp := by
  unfold enterOpening
  dsimp only
  (repeat' split) <;> simp

@[simp] theorem enterYielding_frame (s : State) :
    (enterYielding s).1.pending = s.pending ∧ (enterYielding s).1.uptimeMs = s.uptimeMs ∧ (enterYielding s).1.wpu = s.wpu ∧
    (enterYielding s).1.sfu = s.sfu ∧ (enterYielding s).1.spt = s.spt ∧ (enterYielding s).1.dsu = s.dsu ∧
    (enterYielding s).1.wsc = s.wsc ∧ (enterYielding s).1.lkp.port = s.lkp.port ∧ (enterYielding s).1.dru.hinge = s.dru.hinge ∧
    (enterYielding s).1.dyc.settings = s.dyc.settings ∧ (enterYielding s).1.cdu.traps = s.cdu.traps ∧
    (enterYielding s).1.cdu.mode = s.cdu.mode ∧ (enterYielding s).1.cdu.safeSet = s.cdu.safeSet ∧
    (enterYielding s).1.hcu.temp = s.hcu.temp := by
  unfold enterYielding
  simp

@[simp] theorem retractInEnding_frame (s : State) :
    (retractInEnding s).1.pending = s.pending ∧ (retractInEnding s).1.uptimeMs = s.uptimeMs ∧
    (retractInEnding s).1.wpu = s.wpu ∧ (retractInEnding s).1.sfu = s.sfu ∧ (retractInEnding s).1.spt = s.spt ∧
    (retractInEnding s).1.dsu = s.dsu ∧ (retractInEnding s).1.wsc = s.wsc ∧ (retractInEnding s).1.lkp.port = s.lkp.port ∧
    (retractInEnding s).1.dru.hinge = s.dru.hinge ∧ (retractInEnding s).1.dyc.settings = s.dyc.settings ∧
    (retractInEnding s).1.cdu.traps = s.cdu.traps ∧ (retractInEnding s).1.cdu.mode = s.cdu.mode ∧
    (retractInEnding s).1.cdu.safeSet = s.cdu.safeSet ∧ (retractInEnding s).1.hcu.temp = s.hcu.temp := by
  unfold retractInEnding
  (repeat' split) <;> simp_all [pair_parts]

@[simp] theorem enterEnding_frame (s : State) :
    (enterEnding s).pending = s.pending ∧ (enterEnding s).uptimeMs = s.uptimeMs ∧ (enterEnding s).lkp = s.lkp ∧
    (enterEnding s).wpu = s.wpu ∧ (enterEnding s).sfu = s.sfu ∧ (enterEnding s).spt = s.spt ∧ (enterEnding s).dsu = s.dsu ∧
    (enterEnding s).wsc = s.wsc ∧ (enterEnding s).hcu = s.hcu ∧ (enterEnding s).dru = s.dru ∧ (enterEnding s).cdu = s.cdu ∧
    (enterEnding s).dyc.settings = s.dyc.settings := by
  unfold enterEnding
  simp

@[simp] theorem dryingEnds_frame (s : State) :
    (dryingEnds s).1.pending = s.pending ∧ (dryingEnds s).1.uptimeMs = s.uptimeMs ∧ (dryingEnds s).1.wpu = s.wpu ∧
    (dryingEnds s).1.sfu = s.sfu ∧ (dryingEnds s).1.spt = s.spt ∧ (dryingEnds s).1.dsu = s.dsu ∧ (dryingEnds s).1.wsc = s.wsc ∧
    (dryingEnds s).1.lkp.port = s.lkp.port ∧ (dryingEnds s).1.dru.hinge = s.dru.hinge ∧
    (dryingEnds s).1.dyc.settings = s.dyc.settings ∧ (dryingEnds s).1.cdu.traps = s.cdu.traps ∧
    (dryingEnds s).1.cdu.mode = s.cdu.mode ∧ (dryingEnds s).1.cdu.safeSet = s.cdu.safeSet ∧
    (dryingEnds s).1.hcu.temp = s.hcu.temp := by
  unfold dryingEnds
  (repeat' split) <;> simp

@[simp] theorem takeMoveEnd_frame (cmd : OpenerCmd) (o : MoveOutcome) (s : State) :
    (takeMoveEnd cmd o s).1.pending = s.pending ∧ (takeMoveEnd cmd o s).1.uptimeMs = s.uptimeMs ∧
    (takeMoveEnd cmd o s).1.wpu = s.wpu ∧ (takeMoveEnd cmd o s).1.sfu = s.sfu ∧ (takeMoveEnd cmd o s).1.spt = s.spt ∧
    (takeMoveEnd cmd o s).1.dsu = s.dsu ∧ (takeMoveEnd cmd o s).1.wsc = s.wsc ∧ (takeMoveEnd cmd o s).1.lkp.port = s.lkp.port ∧
    (takeMoveEnd cmd o s).1.dru.hinge = s.dru.hinge ∧ (takeMoveEnd cmd o s).1.dyc.settings = s.dyc.settings ∧
    (takeMoveEnd cmd o s).1.cdu.traps = s.cdu.traps ∧ (takeMoveEnd cmd o s).1.cdu.mode = s.cdu.mode ∧
    (takeMoveEnd cmd o s).1.cdu.safeSet = s.cdu.safeSet ∧ (takeMoveEnd cmd o s).1.hcu.temp = s.hcu.temp := by
  unfold takeMoveEnd
  (repeat' split) <;> simp

@[simp] theorem dryMoveEnded_frame (cmd : OpenerCmd) (o : MoveOutcome) (s : State) :
    (dryMoveEnded cmd o s).1.pending = s.pending ∧ (dryMoveEnded cmd o s).1.uptimeMs = s.uptimeMs ∧
    (dryMoveEnded cmd o s).1.wpu = s.wpu ∧ (dryMoveEnded cmd o s).1.sfu = s.sfu ∧ (dryMoveEnded cmd o s).1.spt = s.spt ∧
    (dryMoveEnded cmd o s).1.dsu = s.dsu ∧ (dryMoveEnded cmd o s).1.wsc = s.wsc ∧
    (dryMoveEnded cmd o s).1.lkp.port = s.lkp.port ∧ (dryMoveEnded cmd o s).1.dru.hinge = s.dru.hinge ∧
    (dryMoveEnded cmd o s).1.dyc.settings = s.dyc.settings ∧ (dryMoveEnded cmd o s).1.cdu.traps = s.cdu.traps ∧
    (dryMoveEnded cmd o s).1.cdu.mode = s.cdu.mode ∧ (dryMoveEnded cmd o s).1.cdu.safeSet = s.cdu.safeSet ∧
    (dryMoveEnded cmd o s).1.hcu.temp = s.hcu.temp := by
  unfold dryMoveEnded
  (repeat' split) <;> simp

@[simp] theorem reissue_frame (s : State) :
    (reissue s).1.pending = s.pending ∧ (reissue s).1.uptimeMs = s.uptimeMs ∧ (reissue s).1.wpu = s.wpu ∧
    (reissue s).1.sfu = s.sfu ∧ (reissue s).1.spt = s.spt ∧ (reissue s).1.dsu = s.dsu ∧ (reissue s).1.wsc = s.wsc ∧
    (reissue s).1.lkp.port = s.lkp.port ∧ (reissue s).1.dru.hinge = s.dru.hinge ∧ (reissue s).1.dyc.settings = s.dyc.settings ∧
    (reissue s).1.cdu.traps = s.cdu.traps ∧ (reissue s).1.cdu.mode = s.cdu.mode ∧ (reissue s).1.cdu.safeSet = s.cdu.safeSet ∧
    (reissue s).1.hcu.temp = s.hcu.temp := by
  unfold reissue
  (repeat' split) <;> simp

@[simp] theorem classTest_frame (s : State) :
    (classTest s).1.pending = s.pending ∧ (classTest s).1.uptimeMs = s.uptimeMs ∧ (classTest s).1.wpu = s.wpu ∧
    (classTest s).1.sfu = s.sfu ∧ (classTest s).1.spt = s.spt ∧ (classTest s).1.dsu = s.dsu ∧ (classTest s).1.wsc = s.wsc ∧
    (classTest s).1.lkp.port = s.lkp.port ∧ (classTest s).1.dru.hinge = s.dru.hinge ∧
    (classTest s).1.dyc.settings = s.dyc.settings ∧ (classTest s).1.cdu.traps = s.cdu.traps ∧
    (classTest s).1.cdu.mode = s.cdu.mode ∧ (classTest s).1.cdu.safeSet = s.cdu.safeSet ∧
    (classTest s).1.hcu.temp = s.hcu.temp := by
  unfold classTest
  (repeat' split) <;> simp

@[simp] theorem pushTest_frame (s : State) :
    (pushTest s).1.pending = s.pending ∧ (pushTest s).1.uptimeMs = s.uptimeMs ∧ (pushTest s).1.wpu = s.wpu ∧
    (pushTest s).1.sfu = s.sfu ∧ (pushTest s).1.spt = s.spt ∧ (pushTest s).1.dsu = s.dsu ∧ (pushTest s).1.wsc = s.wsc ∧
    (pushTest s).1.lkp.port = s.lkp.port ∧ (pushTest s).1.dru.hinge = s.dru.hinge ∧
    (pushTest s).1.dyc.settings = s.dyc.settings ∧ (pushTest s).1.cdu.traps = s.cdu.traps ∧
    (pushTest s).1.cdu.mode = s.cdu.mode ∧ (pushTest s).1.cdu.safeSet = s.cdu.safeSet ∧
    (pushTest s).1.hcu.temp = s.hcu.temp := by
  unfold pushTest
  (repeat' split) <;> simp

@[simp] theorem startDry_frame (p : PhaseRecord) (s : State) :
    (startDry p s).1.pending = s.pending ∧ (startDry p s).1.uptimeMs = s.uptimeMs ∧ (startDry p s).1.wpu = s.wpu ∧
    (startDry p s).1.sfu = s.sfu ∧ (startDry p s).1.spt = s.spt ∧ (startDry p s).1.dsu = s.dsu ∧ (startDry p s).1.wsc = s.wsc ∧
    (startDry p s).1.lkp.port = s.lkp.port ∧ (startDry p s).1.dru.hinge = s.dru.hinge ∧
    (startDry p s).1.dyc.settings = s.dyc.settings ∧ (startDry p s).1.cdu.traps = s.cdu.traps ∧
    (startDry p s).1.cdu.mode = s.cdu.mode ∧ (startDry p s).1.cdu.safeSet = s.cdu.safeSet ∧
    (startDry p s).1.hcu.temp = s.hcu.temp := by
  unfold startDry
  simp

@[simp] theorem suspendDry_frame (s : State) :
    (suspendDry s).pending = s.pending ∧ (suspendDry s).uptimeMs = s.uptimeMs ∧ (suspendDry s).lkp = s.lkp ∧
    (suspendDry s).wpu = s.wpu ∧ (suspendDry s).sfu = s.sfu ∧ (suspendDry s).spt = s.spt ∧ (suspendDry s).dsu = s.dsu ∧
    (suspendDry s).wsc = s.wsc ∧ (suspendDry s).hcu = s.hcu ∧ (suspendDry s).dru = s.dru ∧ (suspendDry s).cdu = s.cdu ∧
    (suspendDry s).dyc.settings = s.dyc.settings := by
  unfold suspendDry
  simp

@[simp] theorem takePendingEnd_frame (s : State) :
    (takePendingEnd s).1.pending = s.pending ∧ (takePendingEnd s).1.uptimeMs = s.uptimeMs ∧ (takePendingEnd s).1.wpu = s.wpu ∧
    (takePendingEnd s).1.sfu = s.sfu ∧ (takePendingEnd s).1.spt = s.spt ∧ (takePendingEnd s).1.dsu = s.dsu ∧
    (takePendingEnd s).1.wsc = s.wsc ∧ (takePendingEnd s).1.lkp.port = s.lkp.port ∧
    (takePendingEnd s).1.dru.hinge = s.dru.hinge ∧ (takePendingEnd s).1.dyc.settings = s.dyc.settings ∧
    (takePendingEnd s).1.cdu.traps = s.cdu.traps ∧ (takePendingEnd s).1.cdu.mode = s.cdu.mode ∧
    (takePendingEnd s).1.cdu.safeSet = s.cdu.safeSet ∧ (takePendingEnd s).1.hcu.temp = s.hcu.temp := by
  unfold takePendingEnd
  (repeat' split) <;> simp

@[simp] theorem wantKnownRod_frame (s : State) :
    (wantKnownRod s).1.pending = s.pending ∧ (wantKnownRod s).1.uptimeMs = s.uptimeMs ∧ (wantKnownRod s).1.lkp = s.lkp ∧
    (wantKnownRod s).1.wpu = s.wpu ∧ (wantKnownRod s).1.sfu = s.sfu ∧ (wantKnownRod s).1.spt = s.spt ∧
    (wantKnownRod s).1.dsu = s.dsu ∧ (wantKnownRod s).1.wsc = s.wsc ∧ (wantKnownRod s).1.hcu = s.hcu ∧
    (wantKnownRod s).1.dru = s.dru ∧ (wantKnownRod s).1.cdu = s.cdu ∧ (wantKnownRod s).1.dyc.settings = s.dyc.settings := by
  unfold wantKnownRod
  simp

@[simp] theorem restartFan_frame (s : State) :
    (restartFan s).1.pending = s.pending ∧ (restartFan s).1.uptimeMs = s.uptimeMs ∧ (restartFan s).1.lkp = s.lkp ∧
    (restartFan s).1.wpu = s.wpu ∧ (restartFan s).1.sfu = s.sfu ∧ (restartFan s).1.spt = s.spt ∧ (restartFan s).1.dsu = s.dsu ∧
    (restartFan s).1.wsc = s.wsc ∧ (restartFan s).1.hcu = s.hcu ∧ (restartFan s).1.dru = s.dru ∧ (restartFan s).1.cdu = s.cdu ∧
    (restartFan s).1.dyc.settings = s.dyc.settings := by
  unfold restartFan
  simp

@[simp] theorem resumeDry_frame (s : State) :
    (resumeDry s).1.pending = s.pending ∧ (resumeDry s).1.uptimeMs = s.uptimeMs ∧ (resumeDry s).1.wpu = s.wpu ∧
    (resumeDry s).1.sfu = s.sfu ∧ (resumeDry s).1.spt = s.spt ∧ (resumeDry s).1.dsu = s.dsu ∧ (resumeDry s).1.wsc = s.wsc ∧
    (resumeDry s).1.lkp.port = s.lkp.port ∧ (resumeDry s).1.dru.hinge = s.dru.hinge ∧
    (resumeDry s).1.dyc.settings = s.dyc.settings ∧ (resumeDry s).1.cdu.traps = s.cdu.traps ∧
    (resumeDry s).1.cdu.mode = s.cdu.mode ∧ (resumeDry s).1.cdu.safeSet = s.cdu.safeSet ∧
    (resumeDry s).1.hcu.temp = s.hcu.temp := by
  unfold resumeDry
  simp

@[simp] theorem abortDry_frame (s : State) :
    (abortDry s).pending = s.pending ∧ (abortDry s).uptimeMs = s.uptimeMs ∧ (abortDry s).wpu = s.wpu ∧
    (abortDry s).sfu = s.sfu ∧ (abortDry s).spt = s.spt ∧ (abortDry s).dsu = s.dsu ∧ (abortDry s).wsc = s.wsc ∧
    (abortDry s).lkp.port = s.lkp.port ∧ (abortDry s).dru.hinge = s.dru.hinge ∧ (abortDry s).dyc.settings = s.dyc.settings ∧
    (abortDry s).cdu.traps = s.cdu.traps ∧ (abortDry s).cdu.mode = s.cdu.mode ∧ (abortDry s).cdu.safeSet = s.cdu.safeSet ∧
    (abortDry s).hcu.temp = s.hcu.temp := by
  unfold abortDry
  (repeat' split) <;> simp

@[simp] theorem sampleCabinet_frame (temp humidity : Int) (s : State) :
    (sampleCabinet temp humidity s).1.pending = s.pending ∧ (sampleCabinet temp humidity s).1.uptimeMs = s.uptimeMs ∧
    (sampleCabinet temp humidity s).1.wpu = s.wpu ∧ (sampleCabinet temp humidity s).1.sfu = s.sfu ∧
    (sampleCabinet temp humidity s).1.spt = s.spt ∧ (sampleCabinet temp humidity s).1.dsu = s.dsu ∧
    (sampleCabinet temp humidity s).1.wsc = s.wsc ∧ (sampleCabinet temp humidity s).1.lkp.port = s.lkp.port ∧
    (sampleCabinet temp humidity s).1.dru.hinge = s.dru.hinge ∧
    (sampleCabinet temp humidity s).1.dyc.settings = s.dyc.settings ∧
    (sampleCabinet temp humidity s).1.cdu.traps = s.cdu.traps ∧ (sampleCabinet temp humidity s).1.cdu.mode = s.cdu.mode ∧
    (sampleCabinet temp humidity s).1.cdu.safeSet = s.cdu.safeSet ∧
    (sampleCabinet temp humidity s).1.hcu.temp = s.hcu.temp := by
  unfold sampleCabinet
  dsimp only
  (repeat' split) <;> simp

@[simp] theorem setDryRequest_frame (openDelay openTemp dryTime humidity fan : Nat) (s : State) :
    (setDryRequest openDelay openTemp dryTime humidity fan s).1.pending = s.pending ∧
    (setDryRequest openDelay openTemp dryTime humidity fan s).1.uptimeMs = s.uptimeMs ∧
    (setDryRequest openDelay openTemp dryTime humidity fan s).1.lkp = s.lkp ∧
    (setDryRequest openDelay openTemp dryTime humidity fan s).1.wpu = s.wpu ∧
    (setDryRequest openDelay openTemp dryTime humidity fan s).1.sfu = s.sfu ∧
    (setDryRequest openDelay openTemp dryTime humidity fan s).1.spt = s.spt ∧
    (setDryRequest openDelay openTemp dryTime humidity fan s).1.dsu = s.dsu ∧
    (setDryRequest openDelay openTemp dryTime humidity fan s).1.wsc = s.wsc ∧
    (setDryRequest openDelay openTemp dryTime humidity fan s).1.hcu = s.hcu ∧
    (setDryRequest openDelay openTemp dryTime humidity fan s).1.dru = s.dru ∧
    (setDryRequest openDelay openTemp dryTime humidity fan s).1.cdu = s.cdu := by
  unfold setDryRequest
  (repeat' split) <;> simp

end Sys2Proof.Machine
end

