-- ==== Sys2Proof/Laws/FrameConditions.lean ====
section
/-! SUPPORT. What the operations of Machine/Conditions.lean leave unchanged: one law for each. -/

namespace Sys2Proof.Machine

@[simp] theorem setMode_frame (m : Mode) (s : State) :
    (setMode m s).pending = s.pending ∧ (setMode m s).uptimeMs = s.uptimeMs ∧ (setMode m s).dsu = s.dsu ∧
    (setMode m s).wsc = s.wsc ∧ (setMode m s).dru = s.dru ∧ (setMode m s).dyc = s.dyc ∧
    (setMode m s).wpu.meters = s.wpu.meters ∧ (setMode m s).lkp.port = s.lkp.port ∧
    (setMode m s).wpu.switches = s.wpu.switches ∧ (setMode m s).wpu.ledger = s.wpu.ledger ∧
    (setMode m s).wpu.settings = s.wpu.settings ∧ (setMode m s).wpu.inhibit = s.wpu.inhibit ∧
    (setMode m s).wpu.fillRec = s.wpu.fillRec ∧ (setMode m s).sfu.settings = s.sfu.settings ∧
    (setMode m s).cdu.traps = s.cdu.traps ∧ (setMode m s).cdu.safeSet = s.cdu.safeSet ∧
    (setMode m s).hcu.temp = s.hcu.temp := by
  unfold setMode
  (try dsimp only) <;> (try and_intros) <;> first
  | (simp; done)
  | (simp; rfl)
  | rfl
  | (repeat' split) <;> first | (simp; done) | (simp; rfl) | rfl | (simp_all [pair_parts]; done) | (simp_all [pair_parts]; rfl)

@[simp] theorem stopDrain_frame (s : State) :
    (stopDrain s).pending = s.pending ∧ (stopDrain s).uptimeMs = s.uptimeMs ∧ (stopDrain s).lkp = s.lkp ∧
    (stopDrain s).sfu = s.sfu ∧ (stopDrain s).spt = s.spt ∧ (stopDrain s).dsu = s.dsu ∧ (stopDrain s).wsc = s.wsc ∧
    (stopDrain s).hcu = s.hcu ∧ (stopDrain s).dru = s.dru ∧ (stopDrain s).dyc = s.dyc ∧ (stopDrain s).cdu = s.cdu ∧
    (stopDrain s).wpu.meters = s.wpu.meters ∧ (stopDrain s).wpu.switches = s.wpu.switches ∧
    (stopDrain s).wpu.ledger = s.wpu.ledger ∧ (stopDrain s).wpu.settings = s.wpu.settings ∧
    (stopDrain s).wpu.inhibit = s.wpu.inhibit ∧ (stopDrain s).wpu.fillRec = s.wpu.fillRec := by
  unfold stopDrain
  and_intros <;> rfl

@[simp] theorem startDrain_frame (s : State) :
    (startDrain s).pending = s.pending ∧ (startDrain s).uptimeMs = s.uptimeMs ∧ (startDrain s).lkp = s.lkp ∧
    (startDrain s).sfu = s.sfu ∧ (startDrain s).spt = s.spt ∧ (startDrain s).dsu = s.dsu ∧ (startDrain s).wsc = s.wsc ∧
    (startDrain s).hcu = s.hcu ∧ (startDrain s).dru = s.dru ∧ (startDrain s).dyc = s.dyc ∧ (startDrain s).cdu = s.cdu ∧
    (startDrain s).wpu.meters = s.wpu.meters ∧ (startDrain s).wpu.switches = s.wpu.switches ∧
    (startDrain s).wpu.ledger = s.wpu.ledger ∧ (startDrain s).wpu.settings = s.wpu.settings ∧
    (startDrain s).wpu.inhibit = s.wpu.inhibit ∧ (startDrain s).wpu.fillRec = s.wpu.fillRec := by
  unfold startDrain
  and_intros <;> rfl

@[simp] theorem dropFill_frame (s : State) :
    (dropFill s).pending = s.pending ∧ (dropFill s).uptimeMs = s.uptimeMs ∧ (dropFill s).spt = s.spt ∧
    (dropFill s).dsu = s.dsu ∧ (dropFill s).wsc = s.wsc ∧ (dropFill s).hcu = s.hcu ∧ (dropFill s).dru = s.dru ∧
    (dropFill s).dyc = s.dyc ∧ (dropFill s).wpu.meters = s.wpu.meters ∧ (dropFill s).lkp.port = s.lkp.port ∧
    (dropFill s).wpu.switches = s.wpu.switches ∧ (dropFill s).wpu.ledger = s.wpu.ledger ∧
    (dropFill s).wpu.settings = s.wpu.settings ∧ (dropFill s).wpu.inhibit = s.wpu.inhibit ∧
    (dropFill s).wpu.fillRec = s.wpu.fillRec ∧ (dropFill s).sfu.settings = s.sfu.settings ∧
    (dropFill s).cdu.traps = s.cdu.traps ∧ (dropFill s).cdu.mode = s.cdu.mode ∧ (dropFill s).cdu.safeSet = s.cdu.safeSet := by
  unfold dropFill
  (try dsimp only) <;> (try and_intros) <;> first
  | (simp; done)
  | (simp; rfl)
  | rfl
  | (repeat' split) <;> first | (simp; done) | (simp; rfl) | rfl | (simp_all [pair_parts]; done) | (simp_all [pair_parts]; rfl)

@[simp] theorem stopStage_frame (st : Stage) (s : State) :
    (stopStage st s).pending = s.pending ∧ (stopStage st s).uptimeMs = s.uptimeMs ∧ (stopStage st s).spt = s.spt ∧
    (stopStage st s).dsu = s.dsu ∧ (stopStage st s).wsc = s.wsc ∧ (stopStage st s).dru = s.dru ∧
    (stopStage st s).wpu.meters = s.wpu.meters ∧ (stopStage st s).lkp.port = s.lkp.port ∧
    (stopStage st s).wpu.switches = s.wpu.switches ∧ (stopStage st s).wpu.ledger = s.wpu.ledger ∧
    (stopStage st s).wpu.settings = s.wpu.settings ∧ (stopStage st s).wpu.inhibit = s.wpu.inhibit ∧
    (stopStage st s).wpu.fillRec = s.wpu.fillRec ∧ (stopStage st s).sfu.settings = s.sfu.settings ∧
    (stopStage st s).dyc.settings = s.dyc.settings ∧ (stopStage st s).cdu.traps = s.cdu.traps ∧
    (stopStage st s).cdu.mode = s.cdu.mode ∧ (stopStage st s).cdu.safeSet = s.cdu.safeSet ∧
    (stopStage st s).hcu.temp = s.hcu.temp := by
  unfold stopStage
  (repeat' split) <;> simp

@[simp] theorem holdWash_frame (cause : HoldCause) (s : State) :
    (holdWash cause s).pending = s.pending ∧ (holdWash cause s).uptimeMs = s.uptimeMs ∧ (holdWash cause s).spt = s.spt ∧
    (holdWash cause s).dru = s.dru ∧ (holdWash cause s).wpu.meters = s.wpu.meters ∧ (holdWash cause s).lkp.port = s.lkp.port ∧
    (holdWash cause s).wpu.switches = s.wpu.switches ∧ (holdWash cause s).wpu.ledger = s.wpu.ledger ∧
    (holdWash cause s).wpu.settings = s.wpu.settings ∧ (holdWash cause s).wpu.inhibit = s.wpu.inhibit ∧
    (holdWash cause s).wpu.fillRec = s.wpu.fillRec ∧ (holdWash cause s).sfu.settings = s.sfu.settings ∧
    (holdWash cause s).dsu.curve = s.dsu.curve ∧ (holdWash cause s).dsu.soil = s.dsu.soil ∧
    (holdWash cause s).dyc.settings = s.dyc.settings ∧ (holdWash cause s).cdu.traps = s.cdu.traps ∧
    (holdWash cause s).cdu.mode = s.cdu.mode ∧ (holdWash cause s).cdu.safeSet = s.cdu.safeSet ∧
    (holdWash cause s).wsc.queue = s.wsc.queue ∧ (holdWash cause s).wsc.ctx = s.wsc.ctx ∧
    (holdWash cause s).wsc.active = s.wsc.active ∧ (holdWash cause s).hcu.temp = s.hcu.temp := by
  unfold holdWash
  (repeat' split) <;> simp

@[simp] theorem followSafeDrain_frame (s : State) :
    (followSafeDrain s).pending = s.pending ∧ (followSafeDrain s).uptimeMs = s.uptimeMs ∧ (followSafeDrain s).lkp = s.lkp ∧
    (followSafeDrain s).sfu = s.sfu ∧ (followSafeDrain s).spt = s.spt ∧ (followSafeDrain s).dsu = s.dsu ∧
    (followSafeDrain s).wsc = s.wsc ∧ (followSafeDrain s).hcu = s.hcu ∧ (followSafeDrain s).dru = s.dru ∧
    (followSafeDrain s).dyc = s.dyc ∧ (followSafeDrain s).cdu = s.cdu ∧ (followSafeDrain s).wpu.meters = s.wpu.meters ∧
    (followSafeDrain s).wpu.switches = s.wpu.switches ∧ (followSafeDrain s).wpu.ledger = s.wpu.ledger ∧
    (followSafeDrain s).wpu.settings = s.wpu.settings ∧ (followSafeDrain s).wpu.inhibit = s.wpu.inhibit ∧
    (followSafeDrain s).wpu.fillRec = s.wpu.fillRec := by
  unfold followSafeDrain
  (repeat' split) <;> and_intros <;> rfl

@[simp] theorem inhibitInlet_frame (s : State) :
    (inhibitInlet s).pending = s.pending ∧ (inhibitInlet s).uptimeMs = s.uptimeMs ∧ (inhibitInlet s).spt = s.spt ∧
    (inhibitInlet s).dsu = s.dsu ∧ (inhibitInlet s).wsc = s.wsc ∧ (inhibitInlet s).hcu = s.hcu ∧ (inhibitInlet s).dru = s.dru ∧
    (inhibitInlet s).dyc = s.dyc ∧ (inhibitInlet s).cdu = s.cdu ∧ (inhibitInlet s).wpu.meters = s.wpu.meters ∧
    (inhibitInlet s).lkp.port = s.lkp.port ∧ (inhibitInlet s).wpu.switches = s.wpu.switches ∧
    (inhibitInlet s).wpu.ledger = s.wpu.ledger ∧ (inhibitInlet s).wpu.settings = s.wpu.settings ∧
    (inhibitInlet s).wpu.fillRec = s.wpu.fillRec ∧ (inhibitInlet s).sfu.settings = s.sfu.settings := by
  unfold inhibitInlet
  (try dsimp only) <;> (try and_intros) <;> first
  | (simp; done)
  | (simp; rfl)
  | rfl
  | (repeat' split) <;> first | (simp; done) | (simp; rfl) | rfl | (simp_all [pair_parts]; done) | (simp_all [pair_parts]; rfl)

@[simp] theorem endAllTests_frame (o : TestOutcome) (s : State) :
    (endAllTests o s).pending = s.pending ∧ (endAllTests o s).uptimeMs = s.uptimeMs ∧ (endAllTests o s).lkp = s.lkp ∧
    (endAllTests o s).wpu = s.wpu ∧ (endAllTests o s).sfu = s.sfu ∧ (endAllTests o s).spt = s.spt ∧
    (endAllTests o s).dsu = s.dsu ∧ (endAllTests o s).wsc = s.wsc ∧ (endAllTests o s).hcu = s.hcu ∧
    (endAllTests o s).dru = s.dru ∧ (endAllTests o s).dyc = s.dyc ∧ (endAllTests o s).cdu.traps = s.cdu.traps ∧
    (endAllTests o s).cdu.mode = s.cdu.mode ∧ (endAllTests o s).cdu.safeSet = s.cdu.safeSet := by
  unfold endAllTests
  dsimp only
  (repeat' split) <;> simp

@[simp] theorem cutDrives_frame (s : State) :
    (cutDrives s).pending = s.pending ∧ (cutDrives s).uptimeMs = s.uptimeMs ∧ (cutDrives s).lkp = s.lkp ∧
    (cutDrives s).wpu = s.wpu ∧ (cutDrives s).sfu = s.sfu ∧ (cutDrives s).spt = s.spt ∧ (cutDrives s).wsc = s.wsc ∧
    (cutDrives s).hcu = s.hcu ∧ (cutDrives s).dru = s.dru ∧ (cutDrives s).dyc = s.dyc ∧ (cutDrives s).cdu = s.cdu ∧
    (cutDrives s).dsu.curve = s.dsu.curve ∧ (cutDrives s).dsu.soil = s.dsu.soil := by
  unfold cutDrives
  simp

@[simp] theorem stopOpener_frame (s : State) :
    (stopOpener s).pending = s.pending ∧ (stopOpener s).uptimeMs = s.uptimeMs ∧ (stopOpener s).wpu = s.wpu ∧
    (stopOpener s).sfu = s.sfu ∧ (stopOpener s).spt = s.spt ∧ (stopOpener s).dsu = s.dsu ∧ (stopOpener s).wsc = s.wsc ∧
    (stopOpener s).lkp.port = s.lkp.port ∧ (stopOpener s).dru.hinge = s.dru.hinge ∧
    (stopOpener s).dyc.settings = s.dyc.settings ∧ (stopOpener s).cdu.traps = s.cdu.traps ∧
    (stopOpener s).cdu.mode = s.cdu.mode ∧ (stopOpener s).cdu.safeSet = s.cdu.safeSet ∧
    (stopOpener s).hcu.temp = s.hcu.temp := by
  unfold stopOpener
  (repeat' split) <;> simp

@[simp] theorem stopOwners_frame (c : Condition) (s : State) :
    (stopOwners c s).pending = s.pending ∧ (stopOwners c s).uptimeMs = s.uptimeMs ∧ (stopOwners c s).wpu.meters = s.wpu.meters ∧
    (stopOwners c s).lkp.port = s.lkp.port ∧ (stopOwners c s).dru.hinge = s.dru.hinge ∧
    (stopOwners c s).wpu.switches = s.wpu.switches ∧ (stopOwners c s).wpu.ledger = s.wpu.ledger ∧
    (stopOwners c s).wpu.settings = s.wpu.settings ∧ (stopOwners c s).wpu.fillRec = s.wpu.fillRec ∧
    (stopOwners c s).sfu.settings = s.sfu.settings ∧ (stopOwners c s).dsu.curve = s.dsu.curve ∧
    (stopOwners c s).dsu.soil = s.dsu.soil ∧ (stopOwners c s).dyc.settings = s.dyc.settings ∧
    (stopOwners c s).cdu.traps = s.cdu.traps ∧ (stopOwners c s).cdu.mode = s.cdu.mode ∧
    (stopOwners c s).cdu.safeSet = s.cdu.safeSet ∧ (stopOwners c s).wsc.queue = s.wsc.queue ∧
    (stopOwners c s).wsc.ctx = s.wsc.ctx ∧ (stopOwners c s).wsc.active = s.wsc.active ∧
    (stopOwners c s).hcu.temp = s.hcu.temp := by
  unfold stopOwners
  simp

@[simp] theorem enterSafe_frame (c : Condition) (s : State) :
    (enterSafe c s).pending = s.pending ∧ (enterSafe c s).uptimeMs = s.uptimeMs ∧ (enterSafe c s).wpu.meters = s.wpu.meters ∧
    (enterSafe c s).lkp.port = s.lkp.port ∧ (enterSafe c s).dru.hinge = s.dru.hinge ∧
    (enterSafe c s).wpu.switches = s.wpu.switches ∧ (enterSafe c s).wpu.ledger = s.wpu.ledger ∧
    (enterSafe c s).wpu.settings = s.wpu.settings ∧ (enterSafe c s).wpu.fillRec = s.wpu.fillRec ∧
    (enterSafe c s).sfu.settings = s.sfu.settings ∧ (enterSafe c s).dsu.curve = s.dsu.curve ∧
    (enterSafe c s).dsu.soil = s.dsu.soil ∧ (enterSafe c s).dyc.settings = s.dyc.settings ∧
    (enterSafe c s).cdu.traps = s.cdu.traps ∧ (enterSafe c s).wsc.queue = s.wsc.queue ∧ (enterSafe c s).wsc.ctx = s.wsc.ctx ∧
    (enterSafe c s).wsc.active = s.wsc.active ∧ (enterSafe c s).hcu.temp = s.hcu.temp := by
  unfold enterSafe
  simp

@[simp] theorem joinSafe_frame (c : Condition) (s : State) :
    (joinSafe c s).pending = s.pending ∧ (joinSafe c s).uptimeMs = s.uptimeMs ∧ (joinSafe c s).lkp = s.lkp ∧
    (joinSafe c s).wpu = s.wpu ∧ (joinSafe c s).sfu = s.sfu ∧ (joinSafe c s).spt = s.spt ∧ (joinSafe c s).dsu = s.dsu ∧
    (joinSafe c s).wsc = s.wsc ∧ (joinSafe c s).hcu = s.hcu ∧ (joinSafe c s).dru = s.dru ∧ (joinSafe c s).dyc = s.dyc ∧
    (joinSafe c s).cdu.traps = s.cdu.traps ∧ (joinSafe c s).cdu.mode = s.cdu.mode := by
  unfold joinSafe
  (repeat' split) <;> simp

@[simp] theorem consequenceInSafe_frame (c : Condition) (s : State) :
    (consequenceInSafe c s).1.pending = s.pending ∧ (consequenceInSafe c s).1.uptimeMs = s.uptimeMs ∧
    (consequenceInSafe c s).1.lkp = s.lkp ∧ (consequenceInSafe c s).1.wpu = s.wpu ∧ (consequenceInSafe c s).1.sfu = s.sfu ∧
    (consequenceInSafe c s).1.spt = s.spt ∧ (consequenceInSafe c s).1.dsu = s.dsu ∧ (consequenceInSafe c s).1.wsc = s.wsc ∧
    (consequenceInSafe c s).1.hcu = s.hcu ∧ (consequenceInSafe c s).1.dru = s.dru ∧ (consequenceInSafe c s).1.dyc = s.dyc ∧
    (consequenceInSafe c s).1.cdu.traps = s.cdu.traps ∧ (consequenceInSafe c s).1.cdu.mode = s.cdu.mode := by
  unfold consequenceInSafe
  (repeat' split) <;> simp

@[simp] theorem consequenceRunning_frame (c : Condition) (s : State) :
    (consequenceRunning c s).1.pending = s.pending ∧ (consequenceRunning c s).1.uptimeMs = s.uptimeMs ∧
    (consequenceRunning c s).1.wpu.meters = s.wpu.meters ∧ (consequenceRunning c s).1.lkp.port = s.lkp.port ∧
    (consequenceRunning c s).1.dru.hinge = s.dru.hinge ∧ (consequenceRunning c s).1.wpu.switches = s.wpu.switches ∧
    (consequenceRunning c s).1.wpu.ledger = s.wpu.ledger ∧ (consequenceRunning c s).1.wpu.settings = s.wpu.settings ∧
    (consequenceRunning c s).1.wpu.fillRec = s.wpu.fillRec ∧ (consequenceRunning c s).1.sfu.settings = s.sfu.settings ∧
    (consequenceRunning c s).1.dsu.curve = s.dsu.curve ∧ (consequenceRunning c s).1.dsu.soil = s.dsu.soil ∧
    (consequenceRunning c s).1.dyc.settings = s.dyc.settings ∧ (consequenceRunning c s).1.cdu.traps = s.cdu.traps ∧
    (consequenceRunning c s).1.wsc.queue = s.wsc.queue ∧ (consequenceRunning c s).1.wsc.ctx = s.wsc.ctx ∧
    (consequenceRunning c s).1.wsc.active = s.wsc.active ∧ (consequenceRunning c s).1.hcu.temp = s.hcu.temp := by
  unfold consequenceRunning
  (repeat' split) <;> simp

@[simp] theorem consequenceHeld_frame (c : Condition) (s : State) :
    (consequenceHeld c s).1.pending = s.pending ∧ (consequenceHeld c s).1.uptimeMs = s.uptimeMs ∧
    (consequenceHeld c s).1.wpu.meters = s.wpu.meters ∧ (consequenceHeld c s).1.lkp.port = s.lkp.port ∧
    (consequenceHeld c s).1.dru.hinge = s.dru.hinge ∧ (consequenceHeld c s).1.wpu.switches = s.wpu.switches ∧
    (consequenceHeld c s).1.wpu.ledger = s.wpu.ledger ∧ (consequenceHeld c s).1.wpu.settings = s.wpu.settings ∧
    (consequenceHeld c s).1.wpu.fillRec = s.wpu.fillRec ∧ (consequenceHeld c s).1.sfu.settings = s.sfu.settings ∧
    (consequenceHeld c s).1.dsu.curve = s.dsu.curve ∧ (consequenceHeld c s).1.dsu.soil = s.dsu.soil ∧
    (consequenceHeld c s).1.dyc.settings = s.dyc.settings ∧ (consequenceHeld c s).1.cdu.traps = s.cdu.traps ∧
    (consequenceHeld c s).1.wsc.queue = s.wsc.queue ∧ (consequenceHeld c s).1.wsc.ctx = s.wsc.ctx ∧
    (consequenceHeld c s).1.wsc.active = s.wsc.active ∧ (consequenceHeld c s).1.hcu.temp = s.hcu.temp := by
  unfold consequenceHeld
  (repeat' split) <;> simp

@[simp] theorem consequenceIdle_frame (c : Condition) (s : State) :
    (consequenceIdle c s).1.pending = s.pending ∧ (consequenceIdle c s).1.uptimeMs = s.uptimeMs ∧
    (consequenceIdle c s).1.wpu.meters = s.wpu.meters ∧ (consequenceIdle c s).1.lkp.port = s.lkp.port ∧
    (consequenceIdle c s).1.dru.hinge = s.dru.hinge ∧ (consequenceIdle c s).1.wpu.switches = s.wpu.switches ∧
    (consequenceIdle c s).1.wpu.ledger = s.wpu.ledger ∧ (consequenceIdle c s).1.wpu.settings = s.wpu.settings ∧
    (consequenceIdle c s).1.wpu.fillRec = s.wpu.fillRec ∧ (consequenceIdle c s).1.sfu.settings = s.sfu.settings ∧
    (consequenceIdle c s).1.dsu.curve = s.dsu.curve ∧ (consequenceIdle c s).1.dsu.soil = s.dsu.soil ∧
    (consequenceIdle c s).1.dyc.settings = s.dyc.settings ∧ (consequenceIdle c s).1.cdu.traps = s.cdu.traps ∧
    (consequenceIdle c s).1.wsc.queue = s.wsc.queue ∧ (consequenceIdle c s).1.wsc.ctx = s.wsc.ctx ∧
    (consequenceIdle c s).1.wsc.active = s.wsc.active ∧ (consequenceIdle c s).1.hcu.temp = s.hcu.temp := by
  unfold consequenceIdle
  (repeat' split) <;> simp

@[simp] theorem raise_frame (c : Condition) (s : State) :
    (raise c s).1.pending = s.pending ∧ (raise c s).1.uptimeMs = s.uptimeMs ∧ (raise c s).1.wpu.meters = s.wpu.meters ∧
    (raise c s).1.lkp.port = s.lkp.port ∧ (raise c s).1.dru.hinge = s.dru.hinge ∧ (raise c s).1.wpu.switches = s.wpu.switches ∧
    (raise c s).1.wpu.ledger = s.wpu.ledger ∧ (raise c s).1.wpu.settings = s.wpu.settings ∧
    (raise c s).1.wpu.fillRec = s.wpu.fillRec ∧ (raise c s).1.sfu.settings = s.sfu.settings ∧
    (raise c s).1.dsu.curve = s.dsu.curve ∧ (raise c s).1.dsu.soil = s.dsu.soil ∧ (raise c s).1.dyc.settings = s.dyc.settings ∧
    (raise c s).1.cdu.traps = s.cdu.traps ∧ (raise c s).1.wsc.queue = s.wsc.queue ∧ (raise c s).1.wsc.ctx = s.wsc.ctx ∧
    (raise c s).1.wsc.active = s.wsc.active ∧ (raise c s).1.hcu.temp = s.hcu.temp := by
  unfold raise
  (repeat' split) <;> simp

@[simp] theorem raiseOnly_frame (c : Condition) (s : State) :
    (raiseOnly c s).pending = s.pending ∧ (raiseOnly c s).uptimeMs = s.uptimeMs ∧ (raiseOnly c s).wpu.meters = s.wpu.meters ∧
    (raiseOnly c s).lkp.port = s.lkp.port ∧ (raiseOnly c s).dru.hinge = s.dru.hinge ∧
    (raiseOnly c s).wpu.switches = s.wpu.switches ∧ (raiseOnly c s).wpu.ledger = s.wpu.ledger ∧
    (raiseOnly c s).wpu.settings = s.wpu.settings ∧ (raiseOnly c s).wpu.fillRec = s.wpu.fillRec ∧
    (raiseOnly c s).sfu.settings = s.sfu.settings ∧ (raiseOnly c s).dsu.curve = s.dsu.curve ∧
    (raiseOnly c s).dsu.soil = s.dsu.soil ∧ (raiseOnly c s).dyc.settings = s.dyc.settings ∧
    (raiseOnly c s).cdu.traps = s.cdu.traps ∧ (raiseOnly c s).wsc.queue = s.wsc.queue ∧ (raiseOnly c s).wsc.ctx = s.wsc.ctx ∧
    (raiseOnly c s).wsc.active = s.wsc.active ∧ (raiseOnly c s).hcu.temp = s.hcu.temp := by
  unfold raiseOnly
  simp

@[simp] theorem raiseAll_frame (cs : List Condition) (s : State) :
    (raiseAll cs s).pending = s.pending ∧ (raiseAll cs s).uptimeMs = s.uptimeMs ∧ (raiseAll cs s).wpu.meters = s.wpu.meters ∧
    (raiseAll cs s).lkp.port = s.lkp.port ∧ (raiseAll cs s).dru.hinge = s.dru.hinge ∧
    (raiseAll cs s).wpu.switches = s.wpu.switches ∧ (raiseAll cs s).wpu.ledger = s.wpu.ledger ∧
    (raiseAll cs s).wpu.settings = s.wpu.settings ∧ (raiseAll cs s).wpu.fillRec = s.wpu.fillRec ∧
    (raiseAll cs s).sfu.settings = s.sfu.settings ∧ (raiseAll cs s).dsu.curve = s.dsu.curve ∧
    (raiseAll cs s).dsu.soil = s.dsu.soil ∧ (raiseAll cs s).dyc.settings = s.dyc.settings ∧
    (raiseAll cs s).cdu.traps = s.cdu.traps ∧ (raiseAll cs s).wsc.queue = s.wsc.queue ∧ (raiseAll cs s).wsc.ctx = s.wsc.ctx ∧
    (raiseAll cs s).wsc.active = s.wsc.active ∧ (raiseAll cs s).hcu.temp = s.hcu.temp := by
  unfold raiseAll
  simp

end Sys2Proof.Machine
end

