-- ==== Sys2Proof/Laws/FrameFill.lean ====
section
/-! SUPPORT. What the operations of Machine/Fill.lean leave unchanged: one law for each. -/

namespace Sys2Proof.Machine

@[simp] theorem openRecord_frame (f : FillClaim) (s : State) :
    (openRecord f s).pending = s.pending ∧ (openRecord f s).uptimeMs = s.uptimeMs ∧ (openRecord f s).lkp = s.lkp ∧
    (openRecord f s).spt = s.spt ∧ (openRecord f s).dsu = s.dsu ∧ (openRecord f s).wsc = s.wsc ∧ (openRecord f s).hcu = s.hcu ∧
    (openRecord f s).dru = s.dru ∧ (openRecord f s).dyc = s.dyc ∧ (openRecord f s).cdu = s.cdu ∧
    (openRecord f s).wpu.meters = s.wpu.meters ∧ (openRecord f s).wpu.switches = s.wpu.switches ∧
    (openRecord f s).wpu.ledger = s.wpu.ledger ∧ (openRecord f s).wpu.settings = s.wpu.settings ∧
    (openRecord f s).wpu.inhibit = s.wpu.inhibit ∧ (openRecord f s).sfu.settings = s.sfu.settings := by
  unfold openRecord
  and_intros <;> rfl

@[simp] theorem takeUpRecord_frame (s : State) :
    (takeUpRecord s).pending = s.pending ∧ (takeUpRecord s).uptimeMs = s.uptimeMs ∧ (takeUpRecord s).lkp = s.lkp ∧
    (takeUpRecord s).wpu = s.wpu ∧ (takeUpRecord s).spt = s.spt ∧ (takeUpRecord s).dsu = s.dsu ∧ (takeUpRecord s).wsc = s.wsc ∧
    (takeUpRecord s).hcu = s.hcu ∧ (takeUpRecord s).dru = s.dru ∧ (takeUpRecord s).dyc = s.dyc ∧ (takeUpRecord s).cdu = s.cdu ∧
    (takeUpRecord s).sfu.settings = s.sfu.settings := by
  unfold takeUpRecord
  simp

@[simp] theorem openForFill_frame (s : State) :
    (openForFill s).pending = s.pending ∧ (openForFill s).uptimeMs = s.uptimeMs ∧ (openForFill s).lkp = s.lkp ∧
    (openForFill s).sfu = s.sfu ∧ (openForFill s).spt = s.spt ∧ (openForFill s).dsu = s.dsu ∧ (openForFill s).wsc = s.wsc ∧
    (openForFill s).hcu = s.hcu ∧ (openForFill s).dru = s.dru ∧ (openForFill s).dyc = s.dyc ∧ (openForFill s).cdu = s.cdu ∧
    (openForFill s).wpu.meters = s.wpu.meters ∧ (openForFill s).wpu.switches = s.wpu.switches ∧
    (openForFill s).wpu.ledger = s.wpu.ledger ∧ (openForFill s).wpu.settings = s.wpu.settings ∧
    (openForFill s).wpu.inhibit = s.wpu.inhibit ∧ (openForFill s).wpu.fillRec = s.wpu.fillRec := by
  unfold openForFill
  (repeat' split) <;> and_intros <;> rfl

@[simp] theorem grantFill_frame (f : FillClaim) (s : State) :
    (grantFill f s).pending = s.pending ∧ (grantFill f s).uptimeMs = s.uptimeMs ∧ (grantFill f s).wpu.meters = s.wpu.meters ∧
    (grantFill f s).lkp.port = s.lkp.port ∧ (grantFill f s).dru.hinge = s.dru.hinge ∧
    (grantFill f s).wpu.switches = s.wpu.switches ∧ (grantFill f s).wpu.ledger = s.wpu.ledger ∧
    (grantFill f s).wpu.settings = s.wpu.settings ∧ (grantFill f s).sfu.settings = s.sfu.settings ∧
    (grantFill f s).dsu.curve = s.dsu.curve ∧ (grantFill f s).dsu.soil = s.dsu.soil ∧
    (grantFill f s).dyc.settings = s.dyc.settings ∧ (grantFill f s).cdu.traps = s.cdu.traps ∧
    (grantFill f s).wsc.queue = s.wsc.queue ∧ (grantFill f s).wsc.ctx = s.wsc.ctx ∧ (grantFill f s).wsc.active = s.wsc.active ∧
    (grantFill f s).hcu.temp = s.hcu.temp := by
  unfold grantFill
  (try dsimp only) <;> (try and_intros) <;> first
  | (simp; done)
  | (simp; rfl)
  | rfl
  | (repeat' split) <;> first | (simp; done) | (simp; rfl) | rfl | (simp_all [pair_parts]; done) | (simp_all [pair_parts]; rfl)

@[simp] theorem passOn_frame (s : State) :
    (passOn s).pending = s.pending ∧ (passOn s).uptimeMs = s.uptimeMs ∧ (passOn s).wpu.meters = s.wpu.meters ∧
    (passOn s).lkp.port = s.lkp.port ∧ (passOn s).dru.hinge = s.dru.hinge ∧ (passOn s).wpu.switches = s.wpu.switches ∧
    (passOn s).wpu.ledger = s.wpu.ledger ∧ (passOn s).wpu.settings = s.wpu.settings ∧ (passOn s).sfu.settings = s.sfu.settings ∧
    (passOn s).dsu.curve = s.dsu.curve ∧ (passOn s).dsu.soil = s.dsu.soil ∧ (passOn s).dyc.settings = s.dyc.settings ∧
    (passOn s).cdu.traps = s.cdu.traps ∧ (passOn s).wsc.queue = s.wsc.queue ∧ (passOn s).wsc.ctx = s.wsc.ctx ∧
    (passOn s).wsc.active = s.wsc.active ∧ (passOn s).hcu.temp = s.hcu.temp := by
  unfold passOn
  (repeat' split) <;> simp

@[simp] theorem releaseInlet_frame (c : Claimant) (s : State) :
    (releaseInlet c s).pending = s.pending ∧ (releaseInlet c s).uptimeMs = s.uptimeMs ∧
    (releaseInlet c s).wpu.meters = s.wpu.meters ∧ (releaseInlet c s).lkp.port = s.lkp.port ∧
    (releaseInlet c s).dru.hinge = s.dru.hinge ∧ (releaseInlet c s).wpu.switches = s.wpu.switches ∧
    (releaseInlet c s).wpu.ledger = s.wpu.ledger ∧ (releaseInlet c s).wpu.settings = s.wpu.settings ∧
    (releaseInlet c s).sfu.settings = s.sfu.settings ∧ (releaseInlet c s).dsu.curve = s.dsu.curve ∧
    (releaseInlet c s).dsu.soil = s.dsu.soil ∧ (releaseInlet c s).dyc.settings = s.dyc.settings ∧
    (releaseInlet c s).cdu.traps = s.cdu.traps ∧ (releaseInlet c s).wsc.queue = s.wsc.queue ∧
    (releaseInlet c s).wsc.ctx = s.wsc.ctx ∧ (releaseInlet c s).wsc.active = s.wsc.active ∧
    (releaseInlet c s).hcu.temp = s.hcu.temp := by
  unfold releaseInlet
  (repeat' split) <;> simp

@[simp] theorem claimFill_frame (f : FillClaim) (s : State) :
    (claimFill f s).pending = s.pending ∧ (claimFill f s).uptimeMs = s.uptimeMs ∧ (claimFill f s).wpu.meters = s.wpu.meters ∧
    (claimFill f s).lkp.port = s.lkp.port ∧ (claimFill f s).dru.hinge = s.dru.hinge ∧
    (claimFill f s).wpu.switches = s.wpu.switches ∧ (claimFill f s).wpu.ledger = s.wpu.ledger ∧
    (claimFill f s).wpu.settings = s.wpu.settings ∧ (claimFill f s).sfu.settings = s.sfu.settings ∧
    (claimFill f s).dsu.curve = s.dsu.curve ∧ (claimFill f s).dsu.soil = s.dsu.soil ∧
    (claimFill f s).dyc.settings = s.dyc.settings ∧ (claimFill f s).cdu.traps = s.cdu.traps ∧
    (claimFill f s).wsc.queue = s.wsc.queue ∧ (claimFill f s).wsc.ctx = s.wsc.ctx ∧ (claimFill f s).wsc.active = s.wsc.active ∧
    (claimFill f s).hcu.temp = s.hcu.temp := by
  unfold claimFill
  and_intros <;> (repeat' split) <;> first | rfl | simp_all

@[simp] theorem claimTest_frame (seconds : Nat) (s : State) :
    (claimTest seconds s).pending = s.pending ∧ (claimTest seconds s).uptimeMs = s.uptimeMs ∧
    (claimTest seconds s).lkp = s.lkp ∧ (claimTest seconds s).sfu = s.sfu ∧ (claimTest seconds s).spt = s.spt ∧
    (claimTest seconds s).dsu = s.dsu ∧ (claimTest seconds s).wsc = s.wsc ∧ (claimTest seconds s).hcu = s.hcu ∧
    (claimTest seconds s).dru = s.dru ∧ (claimTest seconds s).dyc = s.dyc ∧ (claimTest seconds s).cdu = s.cdu ∧
    (claimTest seconds s).wpu.meters = s.wpu.meters ∧ (claimTest seconds s).wpu.switches = s.wpu.switches ∧
    (claimTest seconds s).wpu.ledger = s.wpu.ledger ∧ (claimTest seconds s).wpu.settings = s.wpu.settings ∧
    (claimTest seconds s).wpu.inhibit = s.wpu.inhibit ∧ (claimTest seconds s).wpu.fillRec = s.wpu.fillRec := by
  unfold claimTest
  (repeat' split) <;> and_intros <;> rfl

@[simp] theorem addToTotal_frame (mL : Nat) (s : State) :
    (addToTotal mL s).pending = s.pending ∧ (addToTotal mL s).uptimeMs = s.uptimeMs ∧ (addToTotal mL s).lkp = s.lkp ∧
    (addToTotal mL s).wpu = s.wpu ∧ (addToTotal mL s).sfu = s.sfu ∧ (addToTotal mL s).spt = s.spt ∧
    (addToTotal mL s).dsu = s.dsu ∧ (addToTotal mL s).hcu = s.hcu ∧ (addToTotal mL s).dru = s.dru ∧
    (addToTotal mL s).dyc = s.dyc ∧ (addToTotal mL s).cdu = s.cdu ∧ (addToTotal mL s).wsc.queue = s.wsc.queue ∧
    (addToTotal mL s).wsc.active = s.wsc.active ∧ (addToTotal mL s).wsc.wash = s.wsc.wash := by
  unfold addToTotal
  simp

@[simp] theorem closeFill_frame (o : FillOutcome) (s : State) :
    (closeFill o s).pending = s.pending ∧ (closeFill o s).uptimeMs = s.uptimeMs ∧ (closeFill o s).spt = s.spt ∧
    (closeFill o s).dsu = s.dsu ∧ (closeFill o s).hcu = s.hcu ∧ (closeFill o s).dru = s.dru ∧ (closeFill o s).dyc = s.dyc ∧
    (closeFill o s).cdu = s.cdu ∧ (closeFill o s).wpu.meters = s.wpu.meters ∧ (closeFill o s).lkp.port = s.lkp.port ∧
    (closeFill o s).wpu.switches = s.wpu.switches ∧ (closeFill o s).wpu.settings = s.wpu.settings ∧
    (closeFill o s).wpu.inhibit = s.wpu.inhibit ∧ (closeFill o s).sfu.settings = s.sfu.settings ∧
    (closeFill o s).wsc.queue = s.wsc.queue ∧ (closeFill o s).wsc.active = s.wsc.active ∧
    (closeFill o s).wsc.wash = s.wsc.wash := by
  unfold closeFill
  (repeat' split) <;> and_intros <;> rfl

@[simp] theorem abandonFill_frame (s : State) :
    (abandonFill s).pending = s.pending ∧ (abandonFill s).uptimeMs = s.uptimeMs ∧ (abandonFill s).spt = s.spt ∧
    (abandonFill s).dsu = s.dsu ∧ (abandonFill s).hcu = s.hcu ∧ (abandonFill s).dru = s.dru ∧ (abandonFill s).dyc = s.dyc ∧
    (abandonFill s).wpu.meters = s.wpu.meters ∧ (abandonFill s).lkp.port = s.lkp.port ∧
    (abandonFill s).wpu.switches = s.wpu.switches ∧ (abandonFill s).wpu.settings = s.wpu.settings ∧
    (abandonFill s).wpu.inhibit = s.wpu.inhibit ∧ (abandonFill s).sfu.settings = s.sfu.settings ∧
    (abandonFill s).cdu.traps = s.cdu.traps ∧ (abandonFill s).cdu.mode = s.cdu.mode ∧
    (abandonFill s).cdu.safeSet = s.cdu.safeSet ∧ (abandonFill s).wsc.queue = s.wsc.queue ∧
    (abandonFill s).wsc.active = s.wsc.active ∧ (abandonFill s).wsc.wash = s.wsc.wash := by
  unfold abandonFill
  simp

@[simp] theorem answerShort_frame (a : Agent) (planned : Nat) (ans : CondAnswer) (s : State) :
    (answerShort a planned ans s).pending = s.pending ∧ (answerShort a planned ans s).uptimeMs = s.uptimeMs ∧
    (answerShort a planned ans s).wpu = s.wpu ∧ (answerShort a planned ans s).sfu = s.sfu ∧
    (answerShort a planned ans s).spt = s.spt ∧ (answerShort a planned ans s).hcu = s.hcu ∧
    (answerShort a planned ans s).dru = s.dru ∧ (answerShort a planned ans s).dyc = s.dyc ∧
    (answerShort a planned ans s).cdu = s.cdu ∧ (answerShort a planned ans s).lkp.port = s.lkp.port ∧
    (answerShort a planned ans s).dsu.curve = s.dsu.curve ∧ (answerShort a planned ans s).dsu.soil = s.dsu.soil ∧
    (answerShort a planned ans s).wsc.queue = s.wsc.queue ∧ (answerShort a planned ans s).wsc.active = s.wsc.active ∧
    (answerShort a planned ans s).wsc.wash = s.wsc.wash := by
  unfold answerShort
  (repeat' split) <;> simp

@[simp] theorem raiseShort_frame (a : Agent) (planned : Nat) (s : State) :
    (raiseShort a planned s).pending = s.pending ∧ (raiseShort a planned s).uptimeMs = s.uptimeMs ∧
    (raiseShort a planned s).wpu.meters = s.wpu.meters ∧ (raiseShort a planned s).lkp.port = s.lkp.port ∧
    (raiseShort a planned s).dru.hinge = s.dru.hinge ∧ (raiseShort a planned s).wpu.switches = s.wpu.switches ∧
    (raiseShort a planned s).wpu.ledger = s.wpu.ledger ∧ (raiseShort a planned s).wpu.settings = s.wpu.settings ∧
    (raiseShort a planned s).wpu.fillRec = s.wpu.fillRec ∧ (raiseShort a planned s).sfu.settings = s.sfu.settings ∧
    (raiseShort a planned s).dsu.curve = s.dsu.curve ∧ (raiseShort a planned s).dsu.soil = s.dsu.soil ∧
    (raiseShort a planned s).dyc.settings = s.dyc.settings ∧ (raiseShort a planned s).cdu.traps = s.cdu.traps ∧
    (raiseShort a planned s).wsc.queue = s.wsc.queue ∧ (raiseShort a planned s).wsc.active = s.wsc.active ∧
    (raiseShort a planned s).hcu.temp = s.hcu.temp := by
  unfold raiseShort
  dsimp only
  (repeat' split) <;> simp

@[simp] theorem requestDose_frame (a : Agent) (phaseId base : Nat) (fill : FillRecord) (s : State) :
    (requestDose a phaseId base fill s).pending = s.pending ∧ (requestDose a phaseId base fill s).uptimeMs = s.uptimeMs ∧
    (requestDose a phaseId base fill s).wpu.meters = s.wpu.meters ∧ (requestDose a phaseId base fill s).lkp.port = s.lkp.port ∧
    (requestDose a phaseId base fill s).dru.hinge = s.dru.hinge ∧
    (requestDose a phaseId base fill s).wpu.switches = s.wpu.switches ∧
    (requestDose a phaseId base fill s).wpu.ledger = s.wpu.ledger ∧
    (requestDose a phaseId base fill s).wpu.settings = s.wpu.settings ∧
    (requestDose a phaseId base fill s).wpu.fillRec = s.wpu.fillRec ∧
    (requestDose a phaseId base fill s).sfu.settings = s.sfu.settings ∧
    (requestDose a phaseId base fill s).dsu.curve = s.dsu.curve ∧ (requestDose a phaseId base fill s).dsu.soil = s.dsu.soil ∧
    (requestDose a phaseId base fill s).dyc.settings = s.dyc.settings ∧
    (requestDose a phaseId base fill s).cdu.traps = s.cdu.traps ∧ (requestDose a phaseId base fill s).wsc.queue = s.wsc.queue ∧
    (requestDose a phaseId base fill s).wsc.active = s.wsc.active ∧
    (requestDose a phaseId base fill s).hcu.temp = s.hcu.temp := by
  unfold requestDose
  dsimp only
  (repeat' split) <;> simp

@[simp] theorem recomputeDose_frame (a : Agent) (s : State) :
    (recomputeDose a s).pending = s.pending ∧ (recomputeDose a s).uptimeMs = s.uptimeMs ∧
    (recomputeDose a s).wpu.meters = s.wpu.meters ∧ (recomputeDose a s).lkp.port = s.lkp.port ∧
    (recomputeDose a s).dru.hinge = s.dru.hinge ∧ (recomputeDose a s).wpu.switches = s.wpu.switches ∧
    (recomputeDose a s).wpu.ledger = s.wpu.ledger ∧ (recomputeDose a s).wpu.settings = s.wpu.settings ∧
    (recomputeDose a s).wpu.fillRec = s.wpu.fillRec ∧ (recomputeDose a s).sfu.settings = s.sfu.settings ∧
    (recomputeDose a s).dsu.curve = s.dsu.curve ∧ (recomputeDose a s).dsu.soil = s.dsu.soil ∧
    (recomputeDose a s).dyc.settings = s.dyc.settings ∧ (recomputeDose a s).cdu.traps = s.cdu.traps ∧
    (recomputeDose a s).wsc.queue = s.wsc.queue ∧ (recomputeDose a s).wsc.active = s.wsc.active ∧
    (recomputeDose a s).hcu.temp = s.hcu.temp := by
  unfold recomputeDose
  dsimp only
  (repeat' split) <;> simp

@[simp] theorem takeUpDriver_frame (s : State) :
    (takeUpDriver s).pending = s.pending ∧ (takeUpDriver s).uptimeMs = s.uptimeMs ∧ (takeUpDriver s).wpu = s.wpu ∧
    (takeUpDriver s).sfu = s.sfu ∧ (takeUpDriver s).spt = s.spt ∧ (takeUpDriver s).hcu = s.hcu ∧ (takeUpDriver s).dru = s.dru ∧
    (takeUpDriver s).dyc = s.dyc ∧ (takeUpDriver s).cdu = s.cdu ∧ (takeUpDriver s).lkp.port = s.lkp.port ∧
    (takeUpDriver s).dsu.curve = s.dsu.curve ∧ (takeUpDriver s).dsu.soil = s.dsu.soil ∧
    (takeUpDriver s).wsc.queue = s.wsc.queue ∧ (takeUpDriver s).wsc.active = s.wsc.active ∧
    (takeUpDriver s).wsc.wash = s.wsc.wash := by
  unfold takeUpDriver
  simp

@[simp] theorem resumeDoses_frame (s : State) :
    (resumeDoses s).pending = s.pending ∧ (resumeDoses s).uptimeMs = s.uptimeMs ∧ (resumeDoses s).wpu.meters = s.wpu.meters ∧
    (resumeDoses s).lkp.port = s.lkp.port ∧ (resumeDoses s).dru.hinge = s.dru.hinge ∧
    (resumeDoses s).wpu.switches = s.wpu.switches ∧ (resumeDoses s).wpu.ledger = s.wpu.ledger ∧
    (resumeDoses s).wpu.settings = s.wpu.settings ∧ (resumeDoses s).wpu.fillRec = s.wpu.fillRec ∧
    (resumeDoses s).sfu.settings = s.sfu.settings ∧ (resumeDoses s).dsu.curve = s.dsu.curve ∧
    (resumeDoses s).dsu.soil = s.dsu.soil ∧ (resumeDoses s).dyc.settings = s.dyc.settings ∧
    (resumeDoses s).cdu.traps = s.cdu.traps ∧ (resumeDoses s).wsc.queue = s.wsc.queue ∧
    (resumeDoses s).wsc.active = s.wsc.active ∧ (resumeDoses s).hcu.temp = s.hcu.temp := by
  unfold resumeDoses
  dsimp only
  (repeat' split) <;> simp

@[simp] theorem endBrine_frame (s : State) :
    (endBrine s).pending = s.pending ∧ (endBrine s).uptimeMs = s.uptimeMs ∧ (endBrine s).wpu.meters = s.wpu.meters ∧
    (endBrine s).lkp.port = s.lkp.port ∧ (endBrine s).dru.hinge = s.dru.hinge ∧ (endBrine s).wpu.switches = s.wpu.switches ∧
    (endBrine s).wpu.ledger = s.wpu.ledger ∧ (endBrine s).wpu.settings = s.wpu.settings ∧
    (endBrine s).sfu.settings = s.sfu.settings ∧ (endBrine s).dsu.curve = s.dsu.curve ∧ (endBrine s).dsu.soil = s.dsu.soil ∧
    (endBrine s).dyc.settings = s.dyc.settings ∧ (endBrine s).cdu.traps = s.cdu.traps ∧ (endBrine s).wsc.queue = s.wsc.queue ∧
    (endBrine s).wsc.ctx = s.wsc.ctx ∧ (endBrine s).wsc.active = s.wsc.active ∧ (endBrine s).hcu.temp = s.hcu.temp := by
  unfold endBrine
  simp

@[simp] theorem endSlow_frame (s : State) :
    (endSlow s).pending = s.pending ∧ (endSlow s).uptimeMs = s.uptimeMs ∧ (endSlow s).wpu.meters = s.wpu.meters ∧
    (endSlow s).lkp.port = s.lkp.port ∧ (endSlow s).dru.hinge = s.dru.hinge ∧ (endSlow s).wpu.switches = s.wpu.switches ∧
    (endSlow s).wpu.ledger = s.wpu.ledger ∧ (endSlow s).wpu.settings = s.wpu.settings ∧
    (endSlow s).sfu.settings = s.sfu.settings ∧ (endSlow s).dsu.curve = s.dsu.curve ∧ (endSlow s).dsu.soil = s.dsu.soil ∧
    (endSlow s).dyc.settings = s.dyc.settings ∧ (endSlow s).cdu.traps = s.cdu.traps ∧ (endSlow s).wsc.queue = s.wsc.queue ∧
    (endSlow s).wsc.ctx = s.wsc.ctx ∧ (endSlow s).wsc.active = s.wsc.active ∧ (endSlow s).hcu.temp = s.hcu.temp := by
  unfold endSlow
  simp

@[simp] theorem endFast_frame (s : State) :
    (endFast s).pending = s.pending ∧ (endFast s).uptimeMs = s.uptimeMs ∧ (endFast s).wpu.meters = s.wpu.meters ∧
    (endFast s).lkp.port = s.lkp.port ∧ (endFast s).dru.hinge = s.dru.hinge ∧ (endFast s).wpu.switches = s.wpu.switches ∧
    (endFast s).wpu.ledger = s.wpu.ledger ∧ (endFast s).wpu.settings = s.wpu.settings ∧
    (endFast s).sfu.settings = s.sfu.settings ∧ (endFast s).dsu.curve = s.dsu.curve ∧ (endFast s).dsu.soil = s.dsu.soil ∧
    (endFast s).dyc.settings = s.dyc.settings ∧ (endFast s).cdu.traps = s.cdu.traps ∧ (endFast s).wsc.queue = s.wsc.queue ∧
    (endFast s).wsc.ctx = s.wsc.ctx ∧ (endFast s).wsc.active = s.wsc.active ∧ (endFast s).hcu.temp = s.hcu.temp := by
  unfold endFast
  (repeat' split) <;> simp

@[simp] theorem faultRun_frame (s : State) :
    (faultRun s).pending = s.pending ∧ (faultRun s).uptimeMs = s.uptimeMs ∧ (faultRun s).wpu.meters = s.wpu.meters ∧
    (faultRun s).lkp.port = s.lkp.port ∧ (faultRun s).dru.hinge = s.dru.hinge ∧ (faultRun s).wpu.switches = s.wpu.switches ∧
    (faultRun s).wpu.ledger = s.wpu.ledger ∧ (faultRun s).wpu.settings = s.wpu.settings ∧
    (faultRun s).sfu.settings = s.sfu.settings ∧ (faultRun s).dsu.curve = s.dsu.curve ∧ (faultRun s).dsu.soil = s.dsu.soil ∧
    (faultRun s).dyc.settings = s.dyc.settings ∧ (faultRun s).cdu.traps = s.cdu.traps ∧ (faultRun s).wsc.queue = s.wsc.queue ∧
    (faultRun s).wsc.ctx = s.wsc.ctx ∧ (faultRun s).wsc.active = s.wsc.active ∧ (faultRun s).hcu.temp = s.hcu.temp := by
  unfold faultRun
  (repeat' split) <;> simp

@[simp] theorem stagePulse_frame (s : State) :
    (stagePulse s).pending = s.pending ∧ (stagePulse s).uptimeMs = s.uptimeMs ∧ (stagePulse s).wpu.meters = s.wpu.meters ∧
    (stagePulse s).lkp.port = s.lkp.port ∧ (stagePulse s).dru.hinge = s.dru.hinge ∧
    (stagePulse s).wpu.switches = s.wpu.switches ∧ (stagePulse s).wpu.ledger = s.wpu.ledger ∧
    (stagePulse s).wpu.settings = s.wpu.settings ∧ (stagePulse s).sfu.settings = s.sfu.settings ∧
    (stagePulse s).dsu.curve = s.dsu.curve ∧ (stagePulse s).dsu.soil = s.dsu.soil ∧
    (stagePulse s).dyc.settings = s.dyc.settings ∧ (stagePulse s).cdu.traps = s.cdu.traps ∧
    (stagePulse s).wsc.queue = s.wsc.queue ∧ (stagePulse s).wsc.ctx = s.wsc.ctx ∧ (stagePulse s).wsc.active = s.wsc.active ∧
    (stagePulse s).hcu.temp = s.hcu.temp := by
  unfold stagePulse
  (repeat' split) <;> simp

@[simp] theorem countPulse_frame (s : State) :
    (countPulse s).pending = s.pending ∧ (countPulse s).uptimeMs = s.uptimeMs ∧ (countPulse s).lkp = s.lkp ∧
    (countPulse s).sfu = s.sfu ∧ (countPulse s).spt = s.spt ∧ (countPulse s).dsu = s.dsu ∧ (countPulse s).wsc = s.wsc ∧
    (countPulse s).hcu = s.hcu ∧ (countPulse s).dru = s.dru ∧ (countPulse s).dyc = s.dyc ∧ (countPulse s).cdu = s.cdu ∧
    (countPulse s).wpu.switches = s.wpu.switches ∧ (countPulse s).wpu.ledger = s.wpu.ledger ∧
    (countPulse s).wpu.settings = s.wpu.settings ∧ (countPulse s).wpu.inhibit = s.wpu.inhibit ∧
    (countPulse s).wpu.fillRec = s.wpu.fillRec := by
  unfold countPulse
  and_intros <;> rfl

@[simp] theorem unattributedPulse_frame (s : State) :
    (unattributedPulse s).pending = s.pending ∧ (unattributedPulse s).uptimeMs = s.uptimeMs ∧
    (unattributedPulse s).lkp.port = s.lkp.port ∧ (unattributedPulse s).dru.hinge = s.dru.hinge ∧
    (unattributedPulse s).wpu.switches = s.wpu.switches ∧ (unattributedPulse s).wpu.ledger = s.wpu.ledger ∧
    (unattributedPulse s).wpu.settings = s.wpu.settings ∧ (unattributedPulse s).wpu.fillRec = s.wpu.fillRec ∧
    (unattributedPulse s).sfu.settings = s.sfu.settings ∧ (unattributedPulse s).dsu.curve = s.dsu.curve ∧
    (unattributedPulse s).dsu.soil = s.dsu.soil ∧ (unattributedPulse s).dyc.settings = s.dyc.settings ∧
    (unattributedPulse s).cdu.traps = s.cdu.traps ∧ (unattributedPulse s).wsc.queue = s.wsc.queue ∧
    (unattributedPulse s).wsc.ctx = s.wsc.ctx ∧ (unattributedPulse s).wsc.active = s.wsc.active ∧
    (unattributedPulse s).hcu.temp = s.hcu.temp := by
  unfold unattributedPulse
  (try dsimp only) <;> (try and_intros) <;> first
  | (simp; done)
  | (simp; rfl)
  | rfl
  | (repeat' split) <;> first | (simp; done) | (simp; rfl) | rfl | (simp_all [pair_parts]; done) | (simp_all [pair_parts]; rfl)

@[simp] theorem fillPulse_frame (r : FillRecord) (compA compB : Bool) (s : State) :
    (fillPulse r compA compB s).1.pending = s.pending ∧ (fillPulse r compA compB s).1.uptimeMs = s.uptimeMs ∧
    (fillPulse r compA compB s).1.dsu = s.dsu ∧ (fillPulse r compA compB s).1.wsc = s.wsc ∧
    (fillPulse r compA compB s).1.hcu = s.hcu ∧ (fillPulse r compA compB s).1.dru = s.dru ∧
    (fillPulse r compA compB s).1.dyc = s.dyc ∧ (fillPulse r compA compB s).1.lkp.port = s.lkp.port ∧
    (fillPulse r compA compB s).1.wpu.ledger = s.wpu.ledger ∧ (fillPulse r compA compB s).1.wpu.settings = s.wpu.settings ∧
    (fillPulse r compA compB s).1.wpu.inhibit = s.wpu.inhibit ∧ (fillPulse r compA compB s).1.sfu.settings = s.sfu.settings ∧
    (fillPulse r compA compB s).1.cdu.traps = s.cdu.traps ∧ (fillPulse r compA compB s).1.cdu.mode = s.cdu.mode ∧
    (fillPulse r compA compB s).1.cdu.safeSet = s.cdu.safeSet := by
  unfold fillPulse
  simp

end Sys2Proof.Machine
end

