-- ==== Sys2Proof/Laws/FrameWash.lean ====
section
/-! SUPPORT. What the operations of Machine/Wash.lean leave unchanged: one law for each. -/

namespace Sys2Proof.Machine

@[simp] theorem editActive_frame (f : ActivePhase → ActivePhase) (s : State) :
    (editActive f s).pending = s.pending ∧ (editActive f s).uptimeMs = s.uptimeMs ∧ (editActive f s).lkp = s.lkp ∧
    (editActive f s).wpu = s.wpu ∧ (editActive f s).sfu = s.sfu ∧ (editActive f s).spt = s.spt ∧ (editActive f s).dsu = s.dsu ∧
    (editActive f s).hcu = s.hcu ∧ (editActive f s).dru = s.dru ∧ (editActive f s).dyc = s.dyc ∧ (editActive f s).cdu = s.cdu ∧
    (editActive f s).wsc.queue = s.wsc.queue ∧ (editActive f s).wsc.ctx = s.wsc.ctx ∧
    (editActive f s).wsc.wash = s.wsc.wash := by
  unfold editActive
  simp

@[simp] theorem setStage_frame (st : Stage) (s : State) :
    (setStage st s).pending = s.pending ∧ (setStage st s).uptimeMs = s.uptimeMs ∧ (setStage st s).lkp = s.lkp ∧
    (setStage st s).wpu = s.wpu ∧ (setStage st s).sfu = s.sfu ∧ (setStage st s).spt = s.spt ∧ (setStage st s).dsu = s.dsu ∧
    (setStage st s).hcu = s.hcu ∧ (setStage st s).dru = s.dru ∧ (setStage st s).dyc = s.dyc ∧ (setStage st s).cdu = s.cdu ∧
    (setStage st s).wsc.queue = s.wsc.queue ∧ (setStage st s).wsc.ctx = s.wsc.ctx ∧ (setStage st s).wsc.wash = s.wsc.wash := by
  unfold setStage
  simp

@[simp] theorem enterPhase_frame (r : PhaseRecord) (rest : List PhaseRecord) (s : State) :
    (enterPhase r rest s).pending = s.pending ∧ (enterPhase r rest s).uptimeMs = s.uptimeMs ∧
    (enterPhase r rest s).dsu = s.dsu ∧ (enterPhase r rest s).dru = s.dru ∧ (enterPhase r rest s).dyc = s.dyc ∧
    (enterPhase r rest s).wpu.meters = s.wpu.meters ∧ (enterPhase r rest s).lkp.port = s.lkp.port ∧
    (enterPhase r rest s).wpu.switches = s.wpu.switches ∧ (enterPhase r rest s).wpu.ledger = s.wpu.ledger ∧
    (enterPhase r rest s).wpu.settings = s.wpu.settings ∧ (enterPhase r rest s).wpu.inhibit = s.wpu.inhibit ∧
    (enterPhase r rest s).wpu.fillRec = s.wpu.fillRec ∧ (enterPhase r rest s).sfu.settings = s.sfu.settings ∧
    (enterPhase r rest s).cdu.traps = s.cdu.traps ∧ (enterPhase r rest s).cdu.mode = s.cdu.mode ∧
    (enterPhase r rest s).cdu.safeSet = s.cdu.safeSet ∧ (enterPhase r rest s).wsc.ctx = s.wsc.ctx ∧
    (enterPhase r rest s).hcu.temp = s.hcu.temp := by
  unfold enterPhase
  simp

@[simp] theorem beginFillStage_frame (r : PhaseRecord) (s : State) :
    (beginFillStage r s).pending = s.pending ∧ (beginFillStage r s).uptimeMs = s.uptimeMs ∧
    (beginFillStage r s).wpu.meters = s.wpu.meters ∧ (beginFillStage r s).lkp.port = s.lkp.port ∧
    (beginFillStage r s).dru.hinge = s.dru.hinge ∧ (beginFillStage r s).wpu.switches = s.wpu.switches ∧
    (beginFillStage r s).wpu.ledger = s.wpu.ledger ∧ (beginFillStage r s).wpu.settings = s.wpu.settings ∧
    (beginFillStage r s).sfu.settings = s.sfu.settings ∧ (beginFillStage r s).dsu.curve = s.dsu.curve ∧
    (beginFillStage r s).dsu.soil = s.dsu.soil ∧ (beginFillStage r s).dyc.settings = s.dyc.settings ∧
    (beginFillStage r s).cdu.traps = s.cdu.traps ∧ (beginFillStage r s).wsc.queue = s.wsc.queue ∧
    (beginFillStage r s).wsc.ctx = s.wsc.ctx ∧ (beginFillStage r s).wsc.active = s.wsc.active ∧
    (beginFillStage r s).hcu.temp = s.hcu.temp := by
  unfold beginFillStage
  (repeat' split) <;> simp

@[simp] theorem beginDrainKind_frame (s : State) :
    (beginDrainKind s).pending = s.pending ∧ (beginDrainKind s).uptimeMs = s.uptimeMs ∧
    (beginDrainKind s).wpu.meters = s.wpu.meters ∧ (beginDrainKind s).lkp.port = s.lkp.port ∧
    (beginDrainKind s).dru.hinge = s.dru.hinge ∧ (beginDrainKind s).wpu.switches = s.wpu.switches ∧
    (beginDrainKind s).wpu.ledger = s.wpu.ledger ∧ (beginDrainKind s).wpu.settings = s.wpu.settings ∧
    (beginDrainKind s).wpu.fillRec = s.wpu.fillRec ∧ (beginDrainKind s).sfu.settings = s.sfu.settings ∧
    (beginDrainKind s).dsu.curve = s.dsu.curve ∧ (beginDrainKind s).dsu.soil = s.dsu.soil ∧
    (beginDrainKind s).dyc.settings = s.dyc.settings ∧ (beginDrainKind s).cdu.traps = s.cdu.traps ∧
    (beginDrainKind s).wsc.queue = s.wsc.queue ∧ (beginDrainKind s).wsc.ctx = s.wsc.ctx ∧
    (beginDrainKind s).wsc.active = s.wsc.active ∧ (beginDrainKind s).hcu.temp = s.hcu.temp := by
  unfold beginDrainKind
  (repeat' split) <;> simp

@[simp] theorem closePhase_frame (s : State) :
    (closePhase s).pending = s.pending ∧ (closePhase s).uptimeMs = s.uptimeMs ∧ (closePhase s).wpu = s.wpu ∧
    (closePhase s).sfu = s.sfu ∧ (closePhase s).spt = s.spt ∧ (closePhase s).dru = s.dru ∧ (closePhase s).dyc = s.dyc ∧
    (closePhase s).cdu = s.cdu ∧ (closePhase s).lkp.port = s.lkp.port ∧ (closePhase s).dsu.curve = s.dsu.curve ∧
    (closePhase s).dsu.soil = s.dsu.soil ∧ (closePhase s).wsc.queue = s.wsc.queue ∧ (closePhase s).wsc.ctx = s.wsc.ctx ∧
    (closePhase s).wsc.wash = s.wsc.wash ∧ (closePhase s).hcu.temp = s.hcu.temp := by
  unfold closePhase
  (repeat' split) <;> simp

@[simp] theorem endProgram_frame (s : State) :
    (endProgram s).pending = s.pending ∧ (endProgram s).uptimeMs = s.uptimeMs ∧ (endProgram s).dsu = s.dsu ∧
    (endProgram s).dru = s.dru ∧ (endProgram s).dyc = s.dyc ∧ (endProgram s).wpu.meters = s.wpu.meters ∧
    (endProgram s).lkp.port = s.lkp.port ∧ (endProgram s).wpu.switches = s.wpu.switches ∧
    (endProgram s).wpu.ledger = s.wpu.ledger ∧ (endProgram s).wpu.settings = s.wpu.settings ∧
    (endProgram s).wpu.inhibit = s.wpu.inhibit ∧ (endProgram s).wpu.fillRec = s.wpu.fillRec ∧
    (endProgram s).sfu.settings = s.sfu.settings ∧ (endProgram s).cdu.traps = s.cdu.traps ∧
    (endProgram s).cdu.safeSet = s.cdu.safeSet ∧ (endProgram s).wsc.queue = s.wsc.queue ∧ (endProgram s).wsc.ctx = s.wsc.ctx ∧
    (endProgram s).hcu.temp = s.hcu.temp := by
  unfold endProgram
  simp

@[simp] theorem startQueue_frame (l : List PhaseRecord) (s : State) :
    (startQueue l s).pending = s.pending ∧ (startQueue l s).uptimeMs = s.uptimeMs ∧ (startQueue l s).wpu.meters = s.wpu.meters ∧
    (startQueue l s).lkp.port = s.lkp.port ∧ (startQueue l s).dru.hinge = s.dru.hinge ∧
    (startQueue l s).wpu.switches = s.wpu.switches ∧ (startQueue l s).wpu.ledger = s.wpu.ledger ∧
    (startQueue l s).wpu.settings = s.wpu.settings ∧ (startQueue l s).sfu.settings = s.sfu.settings ∧
    (startQueue l s).dsu.curve = s.dsu.curve ∧ (startQueue l s).dsu.soil = s.dsu.soil ∧
    (startQueue l s).dyc.settings = s.dyc.settings ∧ (startQueue l s).cdu.traps = s.cdu.traps ∧
    (startQueue l s).wsc.ctx = s.wsc.ctx ∧ (startQueue l s).hcu.temp = s.hcu.temp := by
  induction l generalizing s with
  | nil => simp [startQueue]
  | cons r rest ih =>
    simp only [startQueue]
    (repeat' split) <;> and_intros <;> first | (simp; done) | (simp_all; done)

@[simp] theorem endPhase_frame (s : State) :
    (endPhase s).pending = s.pending ∧ (endPhase s).uptimeMs = s.uptimeMs ∧ (endPhase s).wpu.meters = s.wpu.meters ∧
    (endPhase s).lkp.port = s.lkp.port ∧ (endPhase s).dru.hinge = s.dru.hinge ∧ (endPhase s).wpu.switches = s.wpu.switches ∧
    (endPhase s).wpu.ledger = s.wpu.ledger ∧ (endPhase s).wpu.settings = s.wpu.settings ∧
    (endPhase s).sfu.settings = s.sfu.settings ∧ (endPhase s).dsu.curve = s.dsu.curve ∧ (endPhase s).dsu.soil = s.dsu.soil ∧
    (endPhase s).dyc.settings = s.dyc.settings ∧ (endPhase s).cdu.traps = s.cdu.traps ∧ (endPhase s).wsc.ctx = s.wsc.ctx ∧
    (endPhase s).hcu.temp = s.hcu.temp := by
  unfold endPhase
  simp

@[simp] theorem takeDry_frame (p : State × Bool) :
    (takeDry p).pending = p.1.pending ∧ (takeDry p).uptimeMs = p.1.uptimeMs ∧ (takeDry p).wpu.meters = p.1.wpu.meters ∧
    (takeDry p).lkp.port = p.1.lkp.port ∧ (takeDry p).dru.hinge = p.1.dru.hinge ∧ (takeDry p).wpu.switches = p.1.wpu.switches ∧
    (takeDry p).wpu.ledger = p.1.wpu.ledger ∧ (takeDry p).wpu.settings = p.1.wpu.settings ∧
    (takeDry p).sfu.settings = p.1.sfu.settings ∧ (takeDry p).dsu.curve = p.1.dsu.curve ∧ (takeDry p).dsu.soil = p.1.dsu.soil ∧
    (takeDry p).dyc.settings = p.1.dyc.settings ∧ (takeDry p).cdu.traps = p.1.cdu.traps ∧ (takeDry p).wsc.ctx = p.1.wsc.ctx ∧
    (takeDry p).hcu.temp = p.1.hcu.temp := by
  unfold takeDry
  (repeat' split) <;> simp

@[simp] theorem leaveStage_frame (a : ActivePhase) (s : State) :
    (leaveStage a s).pending = s.pending ∧ (leaveStage a s).uptimeMs = s.uptimeMs ∧ (leaveStage a s).wpu.meters = s.wpu.meters ∧
    (leaveStage a s).lkp.port = s.lkp.port ∧ (leaveStage a s).dru.hinge = s.dru.hinge ∧
    (leaveStage a s).wpu.switches = s.wpu.switches ∧ (leaveStage a s).wpu.ledger = s.wpu.ledger ∧
    (leaveStage a s).wpu.settings = s.wpu.settings ∧ (leaveStage a s).sfu.settings = s.sfu.settings ∧
    (leaveStage a s).dsu.curve = s.dsu.curve ∧ (leaveStage a s).dsu.soil = s.dsu.soil ∧
    (leaveStage a s).dyc.settings = s.dyc.settings ∧ (leaveStage a s).cdu.traps = s.cdu.traps ∧
    (leaveStage a s).wsc.ctx = s.wsc.ctx ∧ (leaveStage a s).hcu.temp = s.hcu.temp := by
  unfold leaveStage
  (repeat' split) <;> simp

@[simp] theorem leaveTest_frame (s : State) :
    (leaveTest s).pending = s.pending ∧ (leaveTest s).uptimeMs = s.uptimeMs ∧ (leaveTest s).wpu.meters = s.wpu.meters ∧
    (leaveTest s).lkp.port = s.lkp.port ∧ (leaveTest s).dru.hinge = s.dru.hinge ∧ (leaveTest s).wpu.switches = s.wpu.switches ∧
    (leaveTest s).wpu.ledger = s.wpu.ledger ∧ (leaveTest s).wpu.settings = s.wpu.settings ∧
    (leaveTest s).sfu.settings = s.sfu.settings ∧ (leaveTest s).dsu.curve = s.dsu.curve ∧ (leaveTest s).dsu.soil = s.dsu.soil ∧
    (leaveTest s).dyc.settings = s.dyc.settings ∧ (leaveTest s).cdu.traps = s.cdu.traps ∧ (leaveTest s).wsc.ctx = s.wsc.ctx ∧
    (leaveTest s).hcu.temp = s.hcu.temp := by
  unfold leaveTest
  (repeat' split) <;> simp

@[simp] theorem requestRinse_frame (a : ActivePhase) (s : State) :
    (requestRinse a s).pending = s.pending ∧ (requestRinse a s).uptimeMs = s.uptimeMs ∧
    (requestRinse a s).wpu.meters = s.wpu.meters ∧ (requestRinse a s).lkp.port = s.lkp.port ∧
    (requestRinse a s).dru.hinge = s.dru.hinge ∧ (requestRinse a s).wpu.switches = s.wpu.switches ∧
    (requestRinse a s).wpu.ledger = s.wpu.ledger ∧ (requestRinse a s).wpu.settings = s.wpu.settings ∧
    (requestRinse a s).wpu.fillRec = s.wpu.fillRec ∧ (requestRinse a s).sfu.settings = s.sfu.settings ∧
    (requestRinse a s).dsu.curve = s.dsu.curve ∧ (requestRinse a s).dsu.soil = s.dsu.soil ∧
    (requestRinse a s).dyc.settings = s.dyc.settings ∧ (requestRinse a s).cdu.traps = s.cdu.traps ∧
    (requestRinse a s).wsc.queue = s.wsc.queue ∧ (requestRinse a s).hcu.temp = s.hcu.temp := by
  unfold requestRinse
  (repeat' split) <;> simp

@[simp] theorem maintainHeat_frame (s : State) :
    (maintainHeat s).pending = s.pending ∧ (maintainHeat s).uptimeMs = s.uptimeMs ∧ (maintainHeat s).lkp = s.lkp ∧
    (maintainHeat s).wpu = s.wpu ∧ (maintainHeat s).sfu = s.sfu ∧ (maintainHeat s).spt = s.spt ∧ (maintainHeat s).dsu = s.dsu ∧
    (maintainHeat s).wsc = s.wsc ∧ (maintainHeat s).dru = s.dru ∧ (maintainHeat s).dyc = s.dyc ∧ (maintainHeat s).cdu = s.cdu ∧
    (maintainHeat s).hcu.temp = s.hcu.temp := by
  unfold maintainHeat
  (repeat' split) <;> simp

@[simp] theorem beginHold_frame (s : State) :
    (beginHold s).pending = s.pending ∧ (beginHold s).uptimeMs = s.uptimeMs ∧ (beginHold s).wpu.meters = s.wpu.meters ∧
    (beginHold s).lkp.port = s.lkp.port ∧ (beginHold s).dru.hinge = s.dru.hinge ∧ (beginHold s).wpu.switches = s.wpu.switches ∧
    (beginHold s).wpu.ledger = s.wpu.ledger ∧ (beginHold s).wpu.settings = s.wpu.settings ∧
    (beginHold s).wpu.fillRec = s.wpu.fillRec ∧ (beginHold s).sfu.settings = s.sfu.settings ∧
    (beginHold s).dsu.curve = s.dsu.curve ∧ (beginHold s).dsu.soil = s.dsu.soil ∧ (beginHold s).dyc.settings = s.dyc.settings ∧
    (beginHold s).cdu.traps = s.cdu.traps ∧ (beginHold s).wsc.queue = s.wsc.queue ∧ (beginHold s).hcu.temp = s.hcu.temp := by
  unfold beginHold
  (repeat' split) <;> simp

@[simp] theorem endCountdown_frame (s : State) :
    (endCountdown s).pending = s.pending ∧ (endCountdown s).uptimeMs = s.uptimeMs ∧ (endCountdown s).wpu.meters = s.wpu.meters ∧
    (endCountdown s).lkp.port = s.lkp.port ∧ (endCountdown s).dru.hinge = s.dru.hinge ∧
    (endCountdown s).wpu.switches = s.wpu.switches ∧ (endCountdown s).wpu.ledger = s.wpu.ledger ∧
    (endCountdown s).wpu.settings = s.wpu.settings ∧ (endCountdown s).sfu.settings = s.sfu.settings ∧
    (endCountdown s).dsu.curve = s.dsu.curve ∧ (endCountdown s).dsu.soil = s.dsu.soil ∧
    (endCountdown s).dyc.settings = s.dyc.settings ∧ (endCountdown s).cdu.traps = s.cdu.traps ∧
    (endCountdown s).wsc.ctx = s.wsc.ctx ∧ (endCountdown s).hcu.temp = s.hcu.temp := by
  unfold endCountdown
  dsimp only
  (repeat' split) <;> simp

@[simp] theorem takeClass_frame (s : State) :
    (takeClass s).pending = s.pending ∧ (takeClass s).uptimeMs = s.uptimeMs ∧ (takeClass s).wpu.meters = s.wpu.meters ∧
    (takeClass s).lkp.port = s.lkp.port ∧ (takeClass s).dru.hinge = s.dru.hinge ∧ (takeClass s).wpu.switches = s.wpu.switches ∧
    (takeClass s).wpu.ledger = s.wpu.ledger ∧ (takeClass s).wpu.settings = s.wpu.settings ∧
    (takeClass s).sfu.settings = s.sfu.settings ∧ (takeClass s).dsu.curve = s.dsu.curve ∧ (takeClass s).dsu.soil = s.dsu.soil ∧
    (takeClass s).dyc.settings = s.dyc.settings ∧ (takeClass s).cdu.traps = s.cdu.traps ∧ (takeClass s).wsc.ctx = s.wsc.ctx ∧
    (takeClass s).hcu.temp = s.hcu.temp := by
  unfold takeClass
  simp

@[simp] theorem requestWashDoses_frame (r : PhaseRecord) (fill : FillRecord) (s : State) :
    (requestWashDoses r fill s).pending = s.pending ∧ (requestWashDoses r fill s).uptimeMs = s.uptimeMs ∧
    (requestWashDoses r fill s).wpu.meters = s.wpu.meters ∧ (requestWashDoses r fill s).lkp.port = s.lkp.port ∧
    (requestWashDoses r fill s).dru.hinge = s.dru.hinge ∧ (requestWashDoses r fill s).wpu.switches = s.wpu.switches ∧
    (requestWashDoses r fill s).wpu.ledger = s.wpu.ledger ∧ (requestWashDoses r fill s).wpu.settings = s.wpu.settings ∧
    (requestWashDoses r fill s).wpu.fillRec = s.wpu.fillRec ∧ (requestWashDoses r fill s).sfu.settings = s.sfu.settings ∧
    (requestWashDoses r fill s).dsu.curve = s.dsu.curve ∧ (requestWashDoses r fill s).dsu.soil = s.dsu.soil ∧
    (requestWashDoses r fill s).dyc.settings = s.dyc.settings ∧ (requestWashDoses r fill s).cdu.traps = s.cdu.traps ∧
    (requestWashDoses r fill s).wsc.queue = s.wsc.queue ∧ (requestWashDoses r fill s).wsc.active = s.wsc.active ∧
    (requestWashDoses r fill s).hcu.temp = s.hcu.temp := by
  unfold requestWashDoses
  (repeat' split) <;> simp

@[simp] theorem askWashDoses_frame (r : PhaseRecord) (fill : FillRecord) (s : State) :
    (askWashDoses r fill s).pending = s.pending ∧ (askWashDoses r fill s).uptimeMs = s.uptimeMs ∧
    (askWashDoses r fill s).wpu.meters = s.wpu.meters ∧ (askWashDoses r fill s).lkp.port = s.lkp.port ∧
    (askWashDoses r fill s).dru.hinge = s.dru.hinge ∧ (askWashDoses r fill s).wpu.switches = s.wpu.switches ∧
    (askWashDoses r fill s).wpu.ledger = s.wpu.ledger ∧ (askWashDoses r fill s).wpu.settings = s.wpu.settings ∧
    (askWashDoses r fill s).wpu.fillRec = s.wpu.fillRec ∧ (askWashDoses r fill s).sfu.settings = s.sfu.settings ∧
    (askWashDoses r fill s).dsu.curve = s.dsu.curve ∧ (askWashDoses r fill s).dsu.soil = s.dsu.soil ∧
    (askWashDoses r fill s).dyc.settings = s.dyc.settings ∧ (askWashDoses r fill s).cdu.traps = s.cdu.traps ∧
    (askWashDoses r fill s).wsc.queue = s.wsc.queue ∧ (askWashDoses r fill s).hcu.temp = s.hcu.temp := by
  unfold askWashDoses
  (repeat' split) <;> simp

@[simp] theorem fillClosed_frame (s : State) :
    (fillClosed s).pending = s.pending ∧ (fillClosed s).uptimeMs = s.uptimeMs ∧ (fillClosed s).wpu.meters = s.wpu.meters ∧
    (fillClosed s).lkp.port = s.lkp.port ∧ (fillClosed s).dru.hinge = s.dru.hinge ∧
    (fillClosed s).wpu.switches = s.wpu.switches ∧ (fillClosed s).wpu.ledger = s.wpu.ledger ∧
    (fillClosed s).wpu.settings = s.wpu.settings ∧ (fillClosed s).wpu.fillRec = s.wpu.fillRec ∧
    (fillClosed s).sfu.settings = s.sfu.settings ∧ (fillClosed s).dsu.curve = s.dsu.curve ∧
    (fillClosed s).dsu.soil = s.dsu.soil ∧ (fillClosed s).dyc.settings = s.dyc.settings ∧
    (fillClosed s).cdu.traps = s.cdu.traps ∧ (fillClosed s).wsc.queue = s.wsc.queue ∧ (fillClosed s).hcu.temp = s.hcu.temp := by
  unfold fillClosed
  dsimp only
  (repeat' split) <;> simp

@[simp] theorem temperatureReached_frame (s : State) :
    (temperatureReached s).pending = s.pending ∧ (temperatureReached s).uptimeMs = s.uptimeMs ∧
    (temperatureReached s).wpu.meters = s.wpu.meters ∧ (temperatureReached s).lkp.port = s.lkp.port ∧
    (temperatureReached s).dru.hinge = s.dru.hinge ∧ (temperatureReached s).wpu.switches = s.wpu.switches ∧
    (temperatureReached s).wpu.ledger = s.wpu.ledger ∧ (temperatureReached s).wpu.settings = s.wpu.settings ∧
    (temperatureReached s).wpu.fillRec = s.wpu.fillRec ∧ (temperatureReached s).sfu.settings = s.sfu.settings ∧
    (temperatureReached s).dsu.curve = s.dsu.curve ∧ (temperatureReached s).dsu.soil = s.dsu.soil ∧
    (temperatureReached s).dyc.settings = s.dyc.settings ∧ (temperatureReached s).cdu.traps = s.cdu.traps ∧
    (temperatureReached s).wsc.queue = s.wsc.queue ∧ (temperatureReached s).hcu.temp = s.hcu.temp := by
  unfold temperatureReached
  (repeat' split) <;> simp

@[simp] theorem heatSlowDefault_frame (s : State) :
    (heatSlowDefault s).pending = s.pending ∧ (heatSlowDefault s).uptimeMs = s.uptimeMs ∧
    (heatSlowDefault s).wpu.meters = s.wpu.meters ∧ (heatSlowDefault s).lkp.port = s.lkp.port ∧
    (heatSlowDefault s).dru.hinge = s.dru.hinge ∧ (heatSlowDefault s).wpu.switches = s.wpu.switches ∧
    (heatSlowDefault s).wpu.ledger = s.wpu.ledger ∧ (heatSlowDefault s).wpu.settings = s.wpu.settings ∧
    (heatSlowDefault s).wpu.fillRec = s.wpu.fillRec ∧ (heatSlowDefault s).sfu.settings = s.sfu.settings ∧
    (heatSlowDefault s).dsu.curve = s.dsu.curve ∧ (heatSlowDefault s).dsu.soil = s.dsu.soil ∧
    (heatSlowDefault s).dyc.settings = s.dyc.settings ∧ (heatSlowDefault s).cdu.traps = s.cdu.traps ∧
    (heatSlowDefault s).wsc.queue = s.wsc.queue ∧ (heatSlowDefault s).hcu.temp = s.hcu.temp := by
  unfold heatSlowDefault
  dsimp only
  (repeat' split) <;> simp

@[simp] theorem drainComplete_frame (s : State) :
    (drainComplete s).pending = s.pending ∧ (drainComplete s).uptimeMs = s.uptimeMs ∧
    (drainComplete s).wpu.meters = s.wpu.meters ∧ (drainComplete s).lkp.port = s.lkp.port ∧
    (drainComplete s).dru.hinge = s.dru.hinge ∧ (drainComplete s).wpu.switches = s.wpu.switches ∧
    (drainComplete s).wpu.ledger = s.wpu.ledger ∧ (drainComplete s).wpu.settings = s.wpu.settings ∧
    (drainComplete s).sfu.settings = s.sfu.settings ∧ (drainComplete s).dsu.curve = s.dsu.curve ∧
    (drainComplete s).dsu.soil = s.dsu.soil ∧ (drainComplete s).dyc.settings = s.dyc.settings ∧
    (drainComplete s).cdu.traps = s.cdu.traps ∧ (drainComplete s).wsc.ctx = s.wsc.ctx ∧
    (drainComplete s).hcu.temp = s.hcu.temp := by
  unfold drainComplete
  dsimp only
  (repeat' split) <;> simp

@[simp] theorem drainFails_frame (s : State) :
    (drainFails s).pending = s.pending ∧ (drainFails s).uptimeMs = s.uptimeMs ∧ (drainFails s).wpu.meters = s.wpu.meters ∧
    (drainFails s).lkp.port = s.lkp.port ∧ (drainFails s).dru.hinge = s.dru.hinge ∧
    (drainFails s).wpu.switches = s.wpu.switches ∧ (drainFails s).wpu.ledger = s.wpu.ledger ∧
    (drainFails s).wpu.settings = s.wpu.settings ∧ (drainFails s).wpu.fillRec = s.wpu.fillRec ∧
    (drainFails s).sfu.settings = s.sfu.settings ∧ (drainFails s).dsu.curve = s.dsu.curve ∧
    (drainFails s).dsu.soil = s.dsu.soil ∧ (drainFails s).dyc.settings = s.dyc.settings ∧
    (drainFails s).cdu.traps = s.cdu.traps ∧ (drainFails s).wsc.queue = s.wsc.queue ∧ (drainFails s).wsc.ctx = s.wsc.ctx ∧
    (drainFails s).wsc.active = s.wsc.active ∧ (drainFails s).hcu.temp = s.hcu.temp := by
  unfold drainFails
  simp

@[simp] theorem doorOpens_frame (s : State) :
    (doorOpens s).pending = s.pending ∧ (doorOpens s).uptimeMs = s.uptimeMs ∧ (doorOpens s).wpu.meters = s.wpu.meters ∧
    (doorOpens s).lkp.port = s.lkp.port ∧ (doorOpens s).dru.hinge = s.dru.hinge ∧ (doorOpens s).wpu.switches = s.wpu.switches ∧
    (doorOpens s).wpu.ledger = s.wpu.ledger ∧ (doorOpens s).wpu.settings = s.wpu.settings ∧
    (doorOpens s).wpu.fillRec = s.wpu.fillRec ∧ (doorOpens s).sfu.settings = s.sfu.settings ∧
    (doorOpens s).dsu.curve = s.dsu.curve ∧ (doorOpens s).dsu.soil = s.dsu.soil ∧ (doorOpens s).dyc.settings = s.dyc.settings ∧
    (doorOpens s).cdu.traps = s.cdu.traps ∧ (doorOpens s).wsc.queue = s.wsc.queue ∧ (doorOpens s).wsc.ctx = s.wsc.ctx ∧
    (doorOpens s).wsc.active = s.wsc.active ∧ (doorOpens s).hcu.temp = s.hcu.temp := by
  unfold doorOpens
  (repeat' split) <;> simp

@[simp] theorem resumeHold_frame (a : ActivePhase) (s : State) :
    (resumeHold a s).pending = s.pending ∧ (resumeHold a s).uptimeMs = s.uptimeMs ∧ (resumeHold a s).wpu.meters = s.wpu.meters ∧
    (resumeHold a s).lkp.port = s.lkp.port ∧ (resumeHold a s).dru.hinge = s.dru.hinge ∧
    (resumeHold a s).wpu.switches = s.wpu.switches ∧ (resumeHold a s).wpu.ledger = s.wpu.ledger ∧
    (resumeHold a s).wpu.settings = s.wpu.settings ∧ (resumeHold a s).sfu.settings = s.sfu.settings ∧
    (resumeHold a s).dsu.curve = s.dsu.curve ∧ (resumeHold a s).dsu.soil = s.dsu.soil ∧
    (resumeHold a s).dyc.settings = s.dyc.settings ∧ (resumeHold a s).cdu.traps = s.cdu.traps ∧
    (resumeHold a s).wsc.ctx = s.wsc.ctx ∧ (resumeHold a s).hcu.temp = s.hcu.temp := by
  unfold resumeHold
  (repeat' split) <;> simp

@[simp] theorem resumeSense_frame (a : ActivePhase) (s : State) :
    (resumeSense a s).pending = s.pending ∧ (resumeSense a s).uptimeMs = s.uptimeMs ∧
    (resumeSense a s).wpu.meters = s.wpu.meters ∧ (resumeSense a s).lkp.port = s.lkp.port ∧
    (resumeSense a s).dru.hinge = s.dru.hinge ∧ (resumeSense a s).wpu.switches = s.wpu.switches ∧
    (resumeSense a s).wpu.ledger = s.wpu.ledger ∧ (resumeSense a s).wpu.settings = s.wpu.settings ∧
    (resumeSense a s).sfu.settings = s.sfu.settings ∧ (resumeSense a s).dsu.curve = s.dsu.curve ∧
    (resumeSense a s).dsu.soil = s.dsu.soil ∧ (resumeSense a s).dyc.settings = s.dyc.settings ∧
    (resumeSense a s).cdu.traps = s.cdu.traps ∧ (resumeSense a s).wsc.ctx = s.wsc.ctx ∧
    (resumeSense a s).hcu.temp = s.hcu.temp := by
  unfold resumeSense
  simp

@[simp] theorem restartStage_frame (a : ActivePhase) (s : State) :
    (restartStage a s).pending = s.pending ∧ (restartStage a s).uptimeMs = s.uptimeMs ∧
    (restartStage a s).wpu.meters = s.wpu.meters ∧ (restartStage a s).lkp.port = s.lkp.port ∧
    (restartStage a s).dru.hinge = s.dru.hinge ∧ (restartStage a s).wpu.switches = s.wpu.switches ∧
    (restartStage a s).wpu.ledger = s.wpu.ledger ∧ (restartStage a s).wpu.settings = s.wpu.settings ∧
    (restartStage a s).sfu.settings = s.sfu.settings ∧ (restartStage a s).dsu.curve = s.dsu.curve ∧
    (restartStage a s).dsu.soil = s.dsu.soil ∧ (restartStage a s).dyc.settings = s.dyc.settings ∧
    (restartStage a s).cdu.traps = s.cdu.traps ∧ (restartStage a s).wsc.ctx = s.wsc.ctx ∧
    (restartStage a s).hcu.temp = s.hcu.temp := by
  unfold restartStage
  (repeat' split) <;> simp

@[simp] theorem resumeWash_frame (s : State) :
    (resumeWash s).pending = s.pending ∧ (resumeWash s).uptimeMs = s.uptimeMs ∧ (resumeWash s).wpu.meters = s.wpu.meters ∧
    (resumeWash s).lkp.port = s.lkp.port ∧ (resumeWash s).dru.hinge = s.dru.hinge ∧
    (resumeWash s).wpu.switches = s.wpu.switches ∧ (resumeWash s).wpu.ledger = s.wpu.ledger ∧
    (resumeWash s).wpu.settings = s.wpu.settings ∧ (resumeWash s).sfu.settings = s.sfu.settings ∧
    (resumeWash s).dsu.curve = s.dsu.curve ∧ (resumeWash s).dsu.soil = s.dsu.soil ∧
    (resumeWash s).dyc.settings = s.dyc.settings ∧ (resumeWash s).cdu.traps = s.cdu.traps ∧
    (resumeWash s).hcu.temp = s.hcu.temp := by
  unfold resumeWash
  dsimp only
  (repeat' split) <;> simp

end Sys2Proof.Machine
end

