-- ==== Sys2Proof/Laws/FrameService.lean ====
section
/-! SUPPORT. What the operations of Machine/Service.lean leave unchanged: one law for each. -/

namespace Sys2Proof.Machine

@[simp] theorem endOneTest_frame (a : Actuator) (o : TestOutcome) (s : State) :
    (endOneTest a o s).pending = s.pending ∧ (endOneTest a o s).uptimeMs = s.uptimeMs ∧
    (endOneTest a o s).wpu.meters = s.wpu.meters ∧ (endOneTest a o s).lkp.port = s.lkp.port ∧
    (endOneTest a o s).dru.hinge = s.dru.hinge ∧ (endOneTest a o s).wpu.switches = s.wpu.switches ∧
    (endOneTest a o s).wpu.ledger = s.wpu.ledger ∧ (endOneTest a o s).wpu.settings = s.wpu.settings ∧
    (endOneTest a o s).sfu.settings = s.sfu.settings ∧ (endOneTest a o s).dsu.curve = s.dsu.curve ∧
    (endOneTest a o s).dsu.soil = s.dsu.soil ∧ (endOneTest a o s).dyc.settings = s.dyc.settings ∧
    (endOneTest a o s).cdu.traps = s.cdu.traps ∧ (endOneTest a o s).wsc.queue = s.wsc.queue ∧
    (endOneTest a o s).wsc.ctx = s.wsc.ctx ∧ (endOneTest a o s).wsc.active = s.wsc.active ∧
    (endOneTest a o s).hcu.temp = s.hcu.temp := by
  unfold endOneTest
  (try dsimp only) <;> (try and_intros) <;> first
  | (simp; done)
  | (simp; rfl)
  | rfl
  | (repeat' split) <;> first | (simp; done) | (simp; rfl) | rfl | (simp_all [pair_parts]; done) | (simp_all [pair_parts]; rfl)

@[simp] theorem endTest_frame (a : Actuator) (o : TestOutcome) (s : State) :
    (endTest a o s).pending = s.pending ∧ (endTest a o s).uptimeMs = s.uptimeMs ∧ (endTest a o s).wpu.meters = s.wpu.meters ∧
    (endTest a o s).lkp.port = s.lkp.port ∧ (endTest a o s).dru.hinge = s.dru.hinge ∧
    (endTest a o s).wpu.switches = s.wpu.switches ∧ (endTest a o s).wpu.ledger = s.wpu.ledger ∧
    (endTest a o s).wpu.settings = s.wpu.settings ∧ (endTest a o s).sfu.settings = s.sfu.settings ∧
    (endTest a o s).dsu.curve = s.dsu.curve ∧ (endTest a o s).dsu.soil = s.dsu.soil ∧
    (endTest a o s).dyc.settings = s.dyc.settings ∧ (endTest a o s).cdu.traps = s.cdu.traps ∧
    (endTest a o s).wsc.queue = s.wsc.queue ∧ (endTest a o s).wsc.ctx = s.wsc.ctx ∧ (endTest a o s).wsc.active = s.wsc.active ∧
    (endTest a o s).hcu.temp = s.hcu.temp := by
  unfold endTest
  (repeat' split) <;> simp

@[simp] theorem leaveTests_frame (s : State) :
    (leaveTests s).pending = s.pending ∧ (leaveTests s).uptimeMs = s.uptimeMs ∧ (leaveTests s).wpu.meters = s.wpu.meters ∧
    (leaveTests s).lkp.port = s.lkp.port ∧ (leaveTests s).dru.hinge = s.dru.hinge ∧
    (leaveTests s).wpu.switches = s.wpu.switches ∧ (leaveTests s).wpu.ledger = s.wpu.ledger ∧
    (leaveTests s).wpu.settings = s.wpu.settings ∧ (leaveTests s).sfu.settings = s.sfu.settings ∧
    (leaveTests s).dsu.curve = s.dsu.curve ∧ (leaveTests s).dsu.soil = s.dsu.soil ∧
    (leaveTests s).dyc.settings = s.dyc.settings ∧ (leaveTests s).cdu.traps = s.cdu.traps ∧
    (leaveTests s).wsc.queue = s.wsc.queue ∧ (leaveTests s).wsc.ctx = s.wsc.ctx ∧ (leaveTests s).wsc.active = s.wsc.active ∧
    (leaveTests s).hcu.temp = s.hcu.temp := by
  simp [leaveTests]

@[simp] theorem loseDoor_frame (s : State) :
    (loseDoor s).pending = s.pending ∧ (loseDoor s).uptimeMs = s.uptimeMs ∧ (loseDoor s).wpu.meters = s.wpu.meters ∧
    (loseDoor s).lkp.port = s.lkp.port ∧ (loseDoor s).dru.hinge = s.dru.hinge ∧ (loseDoor s).wpu.switches = s.wpu.switches ∧
    (loseDoor s).wpu.ledger = s.wpu.ledger ∧ (loseDoor s).wpu.settings = s.wpu.settings ∧
    (loseDoor s).sfu.settings = s.sfu.settings ∧ (loseDoor s).dsu.curve = s.dsu.curve ∧ (loseDoor s).dsu.soil = s.dsu.soil ∧
    (loseDoor s).dyc.settings = s.dyc.settings ∧ (loseDoor s).cdu.traps = s.cdu.traps ∧ (loseDoor s).wsc.queue = s.wsc.queue ∧
    (loseDoor s).wsc.ctx = s.wsc.ctx ∧ (loseDoor s).wsc.active = s.wsc.active ∧ (loseDoor s).hcu.temp = s.hcu.temp := by
  unfold loseDoor
  (repeat' split) <;> simp

@[simp] theorem enterServiceRequest_frame (s : State) :
    (enterServiceRequest s).1.pending = s.pending ∧ (enterServiceRequest s).1.uptimeMs = s.uptimeMs ∧
    (enterServiceRequest s).1.dsu = s.dsu ∧ (enterServiceRequest s).1.wsc = s.wsc ∧ (enterServiceRequest s).1.dru = s.dru ∧
    (enterServiceRequest s).1.dyc = s.dyc ∧ (enterServiceRequest s).1.wpu.meters = s.wpu.meters ∧
    (enterServiceRequest s).1.lkp.port = s.lkp.port ∧ (enterServiceRequest s).1.wpu.switches = s.wpu.switches ∧
    (enterServiceRequest s).1.wpu.ledger = s.wpu.ledger ∧ (enterServiceRequest s).1.wpu.settings = s.wpu.settings ∧
    (enterServiceRequest s).1.wpu.inhibit = s.wpu.inhibit ∧ (enterServiceRequest s).1.wpu.fillRec = s.wpu.fillRec ∧
    (enterServiceRequest s).1.sfu.settings = s.sfu.settings ∧ (enterServiceRequest s).1.cdu.traps = s.cdu.traps ∧
    (enterServiceRequest s).1.cdu.safeSet = s.cdu.safeSet ∧ (enterServiceRequest s).1.hcu.temp = s.hcu.temp := by
  unfold enterServiceRequest
  (repeat' split) <;> simp

@[simp] theorem leaveServiceRequest_frame (s : State) :
    (leaveServiceRequest s).1.pending = s.pending ∧ (leaveServiceRequest s).1.uptimeMs = s.uptimeMs ∧
    (leaveServiceRequest s).1.wpu.meters = s.wpu.meters ∧ (leaveServiceRequest s).1.lkp.port = s.lkp.port ∧
    (leaveServiceRequest s).1.dru.hinge = s.dru.hinge ∧ (leaveServiceRequest s).1.wpu.switches = s.wpu.switches ∧
    (leaveServiceRequest s).1.wpu.ledger = s.wpu.ledger ∧ (leaveServiceRequest s).1.wpu.settings = s.wpu.settings ∧
    (leaveServiceRequest s).1.sfu.settings = s.sfu.settings ∧ (leaveServiceRequest s).1.dsu.curve = s.dsu.curve ∧
    (leaveServiceRequest s).1.dsu.soil = s.dsu.soil ∧ (leaveServiceRequest s).1.dyc.settings = s.dyc.settings ∧
    (leaveServiceRequest s).1.cdu.traps = s.cdu.traps ∧ (leaveServiceRequest s).1.wsc.queue = s.wsc.queue ∧
    (leaveServiceRequest s).1.wsc.ctx = s.wsc.ctx ∧ (leaveServiceRequest s).1.wsc.active = s.wsc.active ∧
    (leaveServiceRequest s).1.hcu.temp = s.hcu.temp := by
  unfold leaveServiceRequest
  (repeat' split) <;> simp

@[simp] theorem startTest_frame (a : Actuator) (amount : Nat) (s : State) :
    (startTest a amount s).pending = s.pending ∧ (startTest a amount s).uptimeMs = s.uptimeMs ∧
    (startTest a amount s).lkp = s.lkp ∧ (startTest a amount s).sfu = s.sfu ∧ (startTest a amount s).spt = s.spt ∧
    (startTest a amount s).wsc = s.wsc ∧ (startTest a amount s).dru = s.dru ∧ (startTest a amount s).dyc = s.dyc ∧
    (startTest a amount s).cdu = s.cdu ∧ (startTest a amount s).wpu.meters = s.wpu.meters ∧
    (startTest a amount s).wpu.switches = s.wpu.switches ∧ (startTest a amount s).wpu.ledger = s.wpu.ledger ∧
    (startTest a amount s).wpu.settings = s.wpu.settings ∧ (startTest a amount s).wpu.inhibit = s.wpu.inhibit ∧
    (startTest a amount s).wpu.fillRec = s.wpu.fillRec ∧ (startTest a amount s).dsu.curve = s.dsu.curve ∧
    (startTest a amount s).dsu.soil = s.dsu.soil ∧ (startTest a amount s).hcu.temp = s.hcu.temp := by
  unfold startTest
  and_intros <;> (repeat' split) <;> first | rfl | simp_all

@[simp] theorem testOpener_frame (cmd : OpenerCmd) (amount : Nat) (s : State) :
    (testOpener cmd amount s).1.pending = s.pending ∧ (testOpener cmd amount s).1.uptimeMs = s.uptimeMs ∧
    (testOpener cmd amount s).1.wpu = s.wpu ∧ (testOpener cmd amount s).1.sfu = s.sfu ∧
    (testOpener cmd amount s).1.spt = s.spt ∧ (testOpener cmd amount s).1.dsu = s.dsu ∧
    (testOpener cmd amount s).1.wsc = s.wsc ∧ (testOpener cmd amount s).1.dyc = s.dyc ∧
    (testOpener cmd amount s).1.lkp.port = s.lkp.port ∧ (testOpener cmd amount s).1.dru.hinge = s.dru.hinge ∧
    (testOpener cmd amount s).1.cdu.traps = s.cdu.traps ∧ (testOpener cmd amount s).1.cdu.mode = s.cdu.mode ∧
    (testOpener cmd amount s).1.cdu.safeSet = s.cdu.safeSet ∧ (testOpener cmd amount s).1.hcu.temp = s.hcu.temp := by
  unfold testOpener
  (repeat' split) <;> simp_all [pair_parts]

@[simp] theorem testRequest_frame (actuator amount : Nat) (s : State) :
    (testRequest actuator amount s).1.pending = s.pending ∧ (testRequest actuator amount s).1.uptimeMs = s.uptimeMs ∧
    (testRequest actuator amount s).1.sfu = s.sfu ∧ (testRequest actuator amount s).1.spt = s.spt ∧
    (testRequest actuator amount s).1.wsc = s.wsc ∧ (testRequest actuator amount s).1.dyc = s.dyc ∧
    (testRequest actuator amount s).1.wpu.meters = s.wpu.meters ∧ (testRequest actuator amount s).1.lkp.port = s.lkp.port ∧
    (testRequest actuator amount s).1.dru.hinge = s.dru.hinge ∧
    (testRequest actuator amount s).1.wpu.switches = s.wpu.switches ∧
    (testRequest actuator amount s).1.wpu.ledger = s.wpu.ledger ∧
    (testRequest actuator amount s).1.wpu.settings = s.wpu.settings ∧
    (testRequest actuator amount s).1.wpu.inhibit = s.wpu.inhibit ∧
    (testRequest actuator amount s).1.wpu.fillRec = s.wpu.fillRec ∧ (testRequest actuator amount s).1.dsu.curve = s.dsu.curve ∧
    (testRequest actuator amount s).1.dsu.soil = s.dsu.soil ∧ (testRequest actuator amount s).1.cdu.traps = s.cdu.traps ∧
    (testRequest actuator amount s).1.cdu.mode = s.cdu.mode ∧ (testRequest actuator amount s).1.cdu.safeSet = s.cdu.safeSet ∧
    (testRequest actuator amount s).1.hcu.temp = s.hcu.temp := by
  unfold testRequest
  (repeat' split) <;> simp

@[simp] theorem completeTest_frame (a : Actuator) (s : State) :
    (completeTest a s).pending = s.pending ∧ (completeTest a s).uptimeMs = s.uptimeMs ∧
    (completeTest a s).wpu.meters = s.wpu.meters ∧ (completeTest a s).lkp.port = s.lkp.port ∧
    (completeTest a s).dru.hinge = s.dru.hinge ∧ (completeTest a s).wpu.switches = s.wpu.switches ∧
    (completeTest a s).wpu.ledger = s.wpu.ledger ∧ (completeTest a s).wpu.settings = s.wpu.settings ∧
    (completeTest a s).sfu.settings = s.sfu.settings ∧ (completeTest a s).dsu.curve = s.dsu.curve ∧
    (completeTest a s).dsu.soil = s.dsu.soil ∧ (completeTest a s).dyc.settings = s.dyc.settings ∧
    (completeTest a s).cdu.traps = s.cdu.traps ∧ (completeTest a s).wsc.queue = s.wsc.queue ∧
    (completeTest a s).wsc.ctx = s.wsc.ctx ∧ (completeTest a s).wsc.active = s.wsc.active ∧
    (completeTest a s).hcu.temp = s.hcu.temp := by
  unfold completeTest
  (repeat' split) <;> simp

@[simp] theorem loseWater_frame (s : State) :
    (loseWater s).pending = s.pending ∧ (loseWater s).uptimeMs = s.uptimeMs ∧ (loseWater s).wpu.meters = s.wpu.meters ∧
    (loseWater s).lkp.port = s.lkp.port ∧ (loseWater s).dru.hinge = s.dru.hinge ∧ (loseWater s).wpu.switches = s.wpu.switches ∧
    (loseWater s).wpu.ledger = s.wpu.ledger ∧ (loseWater s).wpu.settings = s.wpu.settings ∧
    (loseWater s).sfu.settings = s.sfu.settings ∧ (loseWater s).dsu.curve = s.dsu.curve ∧ (loseWater s).dsu.soil = s.dsu.soil ∧
    (loseWater s).dyc.settings = s.dyc.settings ∧ (loseWater s).cdu.traps = s.cdu.traps ∧
    (loseWater s).wsc.queue = s.wsc.queue ∧ (loseWater s).wsc.ctx = s.wsc.ctx ∧ (loseWater s).wsc.active = s.wsc.active ∧
    (loseWater s).hcu.temp = s.hcu.temp := by
  unfold loseWater
  (repeat' split) <;> simp

@[simp] theorem completeDoseTest_frame (s : State) :
    (completeDoseTest s).pending = s.pending ∧ (completeDoseTest s).uptimeMs = s.uptimeMs ∧
    (completeDoseTest s).wpu.meters = s.wpu.meters ∧ (completeDoseTest s).lkp.port = s.lkp.port ∧
    (completeDoseTest s).dru.hinge = s.dru.hinge ∧ (completeDoseTest s).wpu.switches = s.wpu.switches ∧
    (completeDoseTest s).wpu.ledger = s.wpu.ledger ∧ (completeDoseTest s).wpu.settings = s.wpu.settings ∧
    (completeDoseTest s).sfu.settings = s.sfu.settings ∧ (completeDoseTest s).dsu.curve = s.dsu.curve ∧
    (completeDoseTest s).dsu.soil = s.dsu.soil ∧ (completeDoseTest s).dyc.settings = s.dyc.settings ∧
    (completeDoseTest s).cdu.traps = s.cdu.traps ∧ (completeDoseTest s).wsc.queue = s.wsc.queue ∧
    (completeDoseTest s).wsc.ctx = s.wsc.ctx ∧ (completeDoseTest s).wsc.active = s.wsc.active ∧
    (completeDoseTest s).hcu.temp = s.hcu.temp := by
  unfold completeDoseTest
  (repeat' split) <;> simp

@[simp] theorem endDiverterTest_frame (arrived : Bool) (s : State) :
    (endDiverterTest arrived s).pending = s.pending ∧ (endDiverterTest arrived s).uptimeMs = s.uptimeMs ∧
    (endDiverterTest arrived s).wpu.meters = s.wpu.meters ∧ (endDiverterTest arrived s).lkp.port = s.lkp.port ∧
    (endDiverterTest arrived s).dru.hinge = s.dru.hinge ∧ (endDiverterTest arrived s).wpu.switches = s.wpu.switches ∧
    (endDiverterTest arrived s).wpu.ledger = s.wpu.ledger ∧ (endDiverterTest arrived s).wpu.settings = s.wpu.settings ∧
    (endDiverterTest arrived s).sfu.settings = s.sfu.settings ∧ (endDiverterTest arrived s).dsu.curve = s.dsu.curve ∧
    (endDiverterTest arrived s).dsu.soil = s.dsu.soil ∧ (endDiverterTest arrived s).dyc.settings = s.dyc.settings ∧
    (endDiverterTest arrived s).cdu.traps = s.cdu.traps ∧ (endDiverterTest arrived s).wsc.queue = s.wsc.queue ∧
    (endDiverterTest arrived s).wsc.ctx = s.wsc.ctx ∧ (endDiverterTest arrived s).wsc.active = s.wsc.active ∧
    (endDiverterTest arrived s).hcu.temp = s.hcu.temp := by
  unfold endDiverterTest
  simp

end Sys2Proof.Machine
end

