-- ==== Sys2Proof/Laws/FrameColumns.lean ====
section
/-! SUPPORT. What the operations of Machine/Columns.lean leave unchanged: one law for each. -/

namespace Sys2Proof.Machine

@[simp] theorem setWaterRequest_frame (k hRaw hT vRef limit : Nat) (s : State) :
    (setWaterRequest k hRaw hT vRef limit s).1.pending = s.pending ∧
    (setWaterRequest k hRaw hT vRef limit s).1.uptimeMs = s.uptimeMs ∧ (setWaterRequest k hRaw hT vRef limit s).1.lkp = s.lkp ∧
    (setWaterRequest k hRaw hT vRef limit s).1.sfu = s.sfu ∧ (setWaterRequest k hRaw hT vRef limit s).1.spt = s.spt ∧
    (setWaterRequest k hRaw hT vRef limit s).1.dsu = s.dsu ∧ (setWaterRequest k hRaw hT vRef limit s).1.wsc = s.wsc ∧
    (setWaterRequest k hRaw hT vRef limit s).1.hcu = s.hcu ∧ (setWaterRequest k hRaw hT vRef limit s).1.dru = s.dru ∧
    (setWaterRequest k hRaw hT vRef limit s).1.dyc = s.dyc ∧ (setWaterRequest k hRaw hT vRef limit s).1.cdu = s.cdu ∧
    (setWaterRequest k hRaw hT vRef limit s).1.wpu.meters = s.wpu.meters ∧
    (setWaterRequest k hRaw hT vRef limit s).1.wpu.switches = s.wpu.switches ∧
    (setWaterRequest k hRaw hT vRef limit s).1.wpu.ledger = s.wpu.ledger ∧
    (setWaterRequest k hRaw hT vRef limit s).1.wpu.inhibit = s.wpu.inhibit ∧
    (setWaterRequest k hRaw hT vRef limit s).1.wpu.fillRec = s.wpu.fillRec := by
  unfold setWaterRequest
  and_intros <;> rfl

@[simp] theorem getFillsRequest_frame (index : Nat) (s : State) :
    (getFillsRequest index s).1.pending = s.pending ∧ (getFillsRequest index s).1.uptimeMs = s.uptimeMs ∧
    (getFillsRequest index s).1.lkp = s.lkp ∧ (getFillsRequest index s).1.wpu = s.wpu ∧
    (getFillsRequest index s).1.sfu = s.sfu ∧ (getFillsRequest index s).1.spt = s.spt ∧
    (getFillsRequest index s).1.dsu = s.dsu ∧ (getFillsRequest index s).1.wsc = s.wsc ∧
    (getFillsRequest index s).1.hcu = s.hcu ∧ (getFillsRequest index s).1.dru = s.dru ∧
    (getFillsRequest index s).1.dyc = s.dyc ∧ (getFillsRequest index s).1.cdu = s.cdu := by
  unfold getFillsRequest
  (repeat' split) <;> simp

@[simp] theorem cancelRun_frame (s : State) :
    (cancelRun s).pending = s.pending ∧ (cancelRun s).uptimeMs = s.uptimeMs ∧ (cancelRun s).spt = s.spt ∧
    (cancelRun s).dsu = s.dsu ∧ (cancelRun s).wsc = s.wsc ∧ (cancelRun s).hcu = s.hcu ∧ (cancelRun s).dru = s.dru ∧
    (cancelRun s).dyc = s.dyc ∧ (cancelRun s).cdu = s.cdu ∧ (cancelRun s).wpu.meters = s.wpu.meters ∧
    (cancelRun s).lkp.port = s.lkp.port ∧ (cancelRun s).wpu.switches = s.wpu.switches ∧
    (cancelRun s).wpu.ledger = s.wpu.ledger ∧ (cancelRun s).wpu.settings = s.wpu.settings ∧
    (cancelRun s).wpu.inhibit = s.wpu.inhibit ∧ (cancelRun s).wpu.fillRec = s.wpu.fillRec ∧
    (cancelRun s).sfu.settings = s.sfu.settings := by
  unfold cancelRun
  (try dsimp only) <;> (try and_intros) <;> first
  | (simp; done)
  | (simp; rfl)
  | rfl
  | (repeat' split) <;> first | (simp; done) | (simp; rfl) | rfl | (simp_all [pair_parts]; done) | (simp_all [pair_parts]; rfl)

@[simp] theorem unlist_frame (c : Column) (s : State) :
    (unlist c s).pending = s.pending ∧ (unlist c s).uptimeMs = s.uptimeMs ∧ (unlist c s).dsu = s.dsu ∧
    (unlist c s).wsc = s.wsc ∧ (unlist c s).hcu = s.hcu ∧ (unlist c s).dru = s.dru ∧ (unlist c s).dyc = s.dyc ∧
    (unlist c s).wpu.meters = s.wpu.meters ∧ (unlist c s).lkp.port = s.lkp.port ∧ (unlist c s).wpu.switches = s.wpu.switches ∧
    (unlist c s).wpu.ledger = s.wpu.ledger ∧ (unlist c s).wpu.settings = s.wpu.settings ∧
    (unlist c s).wpu.inhibit = s.wpu.inhibit ∧ (unlist c s).wpu.fillRec = s.wpu.fillRec ∧
    (unlist c s).sfu.settings = s.sfu.settings ∧ (unlist c s).cdu.traps = s.cdu.traps ∧ (unlist c s).cdu.mode = s.cdu.mode ∧
    (unlist c s).cdu.safeSet = s.cdu.safeSet := by
  unfold unlist
  dsimp only
  (repeat' split) <;> simp

@[simp] theorem holdOn_frame (c : Column) (s : State) :
    (holdOn c s).pending = s.pending ∧ (holdOn c s).uptimeMs = s.uptimeMs ∧ (holdOn c s).dsu = s.dsu ∧
    (holdOn c s).wsc = s.wsc ∧ (holdOn c s).hcu = s.hcu ∧ (holdOn c s).dru = s.dru ∧ (holdOn c s).dyc = s.dyc ∧
    (holdOn c s).wpu.meters = s.wpu.meters ∧ (holdOn c s).lkp.port = s.lkp.port ∧ (holdOn c s).wpu.switches = s.wpu.switches ∧
    (holdOn c s).wpu.ledger = s.wpu.ledger ∧ (holdOn c s).wpu.settings = s.wpu.settings ∧
    (holdOn c s).wpu.inhibit = s.wpu.inhibit ∧ (holdOn c s).wpu.fillRec = s.wpu.fillRec ∧
    (holdOn c s).sfu.settings = s.sfu.settings ∧ (holdOn c s).cdu.traps = s.cdu.traps ∧ (holdOn c s).cdu.mode = s.cdu.mode ∧
    (holdOn c s).cdu.safeSet = s.cdu.safeSet := by
  unfold holdOn
  (repeat' split) <;> simp

@[simp] theorem releaseColumn_frame (c : Column) (s : State) :
    (releaseColumn c s).pending = s.pending ∧ (releaseColumn c s).uptimeMs = s.uptimeMs ∧ (releaseColumn c s).dsu = s.dsu ∧
    (releaseColumn c s).wsc = s.wsc ∧ (releaseColumn c s).hcu = s.hcu ∧ (releaseColumn c s).dru = s.dru ∧
    (releaseColumn c s).dyc = s.dyc ∧ (releaseColumn c s).wpu.meters = s.wpu.meters ∧
    (releaseColumn c s).lkp.port = s.lkp.port ∧ (releaseColumn c s).wpu.switches = s.wpu.switches ∧
    (releaseColumn c s).wpu.ledger = s.wpu.ledger ∧ (releaseColumn c s).wpu.settings = s.wpu.settings ∧
    (releaseColumn c s).wpu.inhibit = s.wpu.inhibit ∧ (releaseColumn c s).wpu.fillRec = s.wpu.fillRec ∧
    (releaseColumn c s).sfu.settings = s.sfu.settings ∧ (releaseColumn c s).cdu.traps = s.cdu.traps ∧
    (releaseColumn c s).cdu.mode = s.cdu.mode ∧ (releaseColumn c s).cdu.safeSet = s.cdu.safeSet := by
  unfold releaseColumn
  dsimp only
  (repeat' split) <;> simp

@[simp] theorem holdOff_frame (c : Column) (s : State) :
    (holdOff c s).pending = s.pending ∧ (holdOff c s).uptimeMs = s.uptimeMs ∧ (holdOff c s).dsu = s.dsu ∧
    (holdOff c s).wsc = s.wsc ∧ (holdOff c s).hcu = s.hcu ∧ (holdOff c s).dru = s.dru ∧ (holdOff c s).dyc = s.dyc ∧
    (holdOff c s).wpu.meters = s.wpu.meters ∧ (holdOff c s).lkp.port = s.lkp.port ∧
    (holdOff c s).wpu.switches = s.wpu.switches ∧ (holdOff c s).wpu.ledger = s.wpu.ledger ∧
    (holdOff c s).wpu.settings = s.wpu.settings ∧ (holdOff c s).wpu.inhibit = s.wpu.inhibit ∧
    (holdOff c s).wpu.fillRec = s.wpu.fillRec ∧ (holdOff c s).sfu.settings = s.sfu.settings ∧
    (holdOff c s).cdu.traps = s.cdu.traps ∧ (holdOff c s).cdu.mode = s.cdu.mode ∧
    (holdOff c s).cdu.safeSet = s.cdu.safeSet := by
  unfold holdOff
  dsimp only
  (repeat' split) <;> simp

@[simp] theorem followRemaining_frame (c : Column) (s : State) :
    (followRemaining c s).1.pending = s.pending ∧ (followRemaining c s).1.uptimeMs = s.uptimeMs ∧
    (followRemaining c s).1.dsu = s.dsu ∧ (followRemaining c s).1.wsc = s.wsc ∧ (followRemaining c s).1.hcu = s.hcu ∧
    (followRemaining c s).1.dru = s.dru ∧ (followRemaining c s).1.dyc = s.dyc ∧
    (followRemaining c s).1.wpu.meters = s.wpu.meters ∧ (followRemaining c s).1.lkp.port = s.lkp.port ∧
    (followRemaining c s).1.wpu.switches = s.wpu.switches ∧ (followRemaining c s).1.wpu.ledger = s.wpu.ledger ∧
    (followRemaining c s).1.wpu.settings = s.wpu.settings ∧ (followRemaining c s).1.wpu.inhibit = s.wpu.inhibit ∧
    (followRemaining c s).1.wpu.fillRec = s.wpu.fillRec ∧ (followRemaining c s).1.sfu.settings = s.sfu.settings ∧
    (followRemaining c s).1.cdu.traps = s.cdu.traps ∧ (followRemaining c s).1.cdu.mode = s.cdu.mode ∧
    (followRemaining c s).1.cdu.safeSet = s.cdu.safeSet := by
  unfold followRemaining
  dsimp only
  (repeat' split) <;> simp

@[simp] theorem applyColumn_frame (c : Column) (nominal remaining hold : Nat) (s : State) :
    (applyColumn c nominal remaining hold s).pending = s.pending ∧
    (applyColumn c nominal remaining hold s).uptimeMs = s.uptimeMs ∧
    (applyColumn c nominal remaining hold s).wpu.meters = s.wpu.meters ∧
    (applyColumn c nominal remaining hold s).lkp.port = s.lkp.port ∧
    (applyColumn c nominal remaining hold s).dru.hinge = s.dru.hinge ∧
    (applyColumn c nominal remaining hold s).wpu.switches = s.wpu.switches ∧
    (applyColumn c nominal remaining hold s).wpu.ledger = s.wpu.ledger ∧
    (applyColumn c nominal remaining hold s).wpu.settings = s.wpu.settings ∧
    (applyColumn c nominal remaining hold s).wpu.fillRec = s.wpu.fillRec ∧
    (applyColumn c nominal remaining hold s).sfu.settings = s.sfu.settings ∧
    (applyColumn c nominal remaining hold s).dsu.curve = s.dsu.curve ∧
    (applyColumn c nominal remaining hold s).dsu.soil = s.dsu.soil ∧
    (applyColumn c nominal remaining hold s).dyc.settings = s.dyc.settings ∧
    (applyColumn c nominal remaining hold s).cdu.traps = s.cdu.traps ∧
    (applyColumn c nominal remaining hold s).wsc.queue = s.wsc.queue ∧
    (applyColumn c nominal remaining hold s).wsc.ctx = s.wsc.ctx ∧
    (applyColumn c nominal remaining hold s).wsc.active = s.wsc.active ∧
    (applyColumn c nominal remaining hold s).hcu.temp = s.hcu.temp := by
  unfold applyColumn
  dsimp only
  (repeat' split) <;> simp

@[simp] theorem setColumnRequest_frame (column nominal remaining hold : Nat) (s : State) :
    (setColumnRequest column nominal remaining hold s).1.pending = s.pending ∧
    (setColumnRequest column nominal remaining hold s).1.uptimeMs = s.uptimeMs ∧
    (setColumnRequest column nominal remaining hold s).1.wpu.meters = s.wpu.meters ∧
    (setColumnRequest column nominal remaining hold s).1.lkp.port = s.lkp.port ∧
    (setColumnRequest column nominal remaining hold s).1.dru.hinge = s.dru.hinge ∧
    (setColumnRequest column nominal remaining hold s).1.wpu.switches = s.wpu.switches ∧
    (setColumnRequest column nominal remaining hold s).1.wpu.ledger = s.wpu.ledger ∧
    (setColumnRequest column nominal remaining hold s).1.wpu.settings = s.wpu.settings ∧
    (setColumnRequest column nominal remaining hold s).1.wpu.fillRec = s.wpu.fillRec ∧
    (setColumnRequest column nominal remaining hold s).1.sfu.settings = s.sfu.settings ∧
    (setColumnRequest column nominal remaining hold s).1.dsu.curve = s.dsu.curve ∧
    (setColumnRequest column nominal remaining hold s).1.dsu.soil = s.dsu.soil ∧
    (setColumnRequest column nominal remaining hold s).1.dyc.settings = s.dyc.settings ∧
    (setColumnRequest column nominal remaining hold s).1.cdu.traps = s.cdu.traps ∧
    (setColumnRequest column nominal remaining hold s).1.wsc.queue = s.wsc.queue ∧
    (setColumnRequest column nominal remaining hold s).1.wsc.ctx = s.wsc.ctx ∧
    (setColumnRequest column nominal remaining hold s).1.wsc.active = s.wsc.active ∧
    (setColumnRequest column nominal remaining hold s).1.hcu.temp = s.hcu.temp := by
  unfold setColumnRequest
  (repeat' split) <;> simp

@[simp] theorem getColumnsRequest_frame (s : State) :
    (getColumnsRequest s).1.pending = s.pending ∧ (getColumnsRequest s).1.uptimeMs = s.uptimeMs ∧
    (getColumnsRequest s).1.lkp = s.lkp ∧ (getColumnsRequest s).1.wpu = s.wpu ∧ (getColumnsRequest s).1.sfu = s.sfu ∧
    (getColumnsRequest s).1.spt = s.spt ∧ (getColumnsRequest s).1.dsu = s.dsu ∧ (getColumnsRequest s).1.wsc = s.wsc ∧
    (getColumnsRequest s).1.hcu = s.hcu ∧ (getColumnsRequest s).1.dru = s.dru ∧ (getColumnsRequest s).1.dyc = s.dyc ∧
    (getColumnsRequest s).1.cdu = s.cdu := by
  unfold getColumnsRequest
  simp

@[simp] theorem listExhausted_frame (c : Column) (s : State) :
    (listExhausted c s).pending = s.pending ∧ (listExhausted c s).uptimeMs = s.uptimeMs ∧ (listExhausted c s).dsu = s.dsu ∧
    (listExhausted c s).wsc = s.wsc ∧ (listExhausted c s).hcu = s.hcu ∧ (listExhausted c s).dru = s.dru ∧
    (listExhausted c s).dyc = s.dyc ∧ (listExhausted c s).wpu.meters = s.wpu.meters ∧
    (listExhausted c s).lkp.port = s.lkp.port ∧ (listExhausted c s).wpu.switches = s.wpu.switches ∧
    (listExhausted c s).wpu.ledger = s.wpu.ledger ∧ (listExhausted c s).wpu.settings = s.wpu.settings ∧
    (listExhausted c s).wpu.inhibit = s.wpu.inhibit ∧ (listExhausted c s).wpu.fillRec = s.wpu.fillRec ∧
    (listExhausted c s).sfu.settings = s.sfu.settings ∧ (listExhausted c s).cdu.traps = s.cdu.traps ∧
    (listExhausted c s).cdu.mode = s.cdu.mode ∧ (listExhausted c s).cdu.safeSet = s.cdu.safeSet := by
  unfold listExhausted
  (repeat' split) <;> simp

@[simp] theorem setRegenRequest_frame (brine slow fast window automatic : Nat) (s : State) :
    (setRegenRequest brine slow fast window automatic s).1.pending = s.pending ∧
    (setRegenRequest brine slow fast window automatic s).1.uptimeMs = s.uptimeMs ∧
    (setRegenRequest brine slow fast window automatic s).1.dsu = s.dsu ∧
    (setRegenRequest brine slow fast window automatic s).1.wsc = s.wsc ∧
    (setRegenRequest brine slow fast window automatic s).1.hcu = s.hcu ∧
    (setRegenRequest brine slow fast window automatic s).1.dru = s.dru ∧
    (setRegenRequest brine slow fast window automatic s).1.dyc = s.dyc ∧
    (setRegenRequest brine slow fast window automatic s).1.wpu.meters = s.wpu.meters ∧
    (setRegenRequest brine slow fast window automatic s).1.lkp.port = s.lkp.port ∧
    (setRegenRequest brine slow fast window automatic s).1.wpu.switches = s.wpu.switches ∧
    (setRegenRequest brine slow fast window automatic s).1.wpu.ledger = s.wpu.ledger ∧
    (setRegenRequest brine slow fast window automatic s).1.wpu.settings = s.wpu.settings ∧
    (setRegenRequest brine slow fast window automatic s).1.wpu.inhibit = s.wpu.inhibit ∧
    (setRegenRequest brine slow fast window automatic s).1.wpu.fillRec = s.wpu.fillRec ∧
    (setRegenRequest brine slow fast window automatic s).1.cdu.traps = s.cdu.traps ∧
    (setRegenRequest brine slow fast window automatic s).1.cdu.mode = s.cdu.mode ∧
    (setRegenRequest brine slow fast window automatic s).1.cdu.safeSet = s.cdu.safeSet := by
  unfold setRegenRequest
  dsimp only
  (repeat' split) <;> simp

@[simp] theorem regenNowRequest_frame (column : Nat) (s : State) :
    (regenNowRequest column s).1.pending = s.pending ∧ (regenNowRequest column s).1.uptimeMs = s.uptimeMs ∧
    (regenNowRequest column s).1.dsu = s.dsu ∧ (regenNowRequest column s).1.wsc = s.wsc ∧
    (regenNowRequest column s).1.hcu = s.hcu ∧ (regenNowRequest column s).1.dru = s.dru ∧
    (regenNowRequest column s).1.dyc = s.dyc ∧ (regenNowRequest column s).1.wpu.meters = s.wpu.meters ∧
    (regenNowRequest column s).1.lkp.port = s.lkp.port ∧ (regenNowRequest column s).1.wpu.switches = s.wpu.switches ∧
    (regenNowRequest column s).1.wpu.ledger = s.wpu.ledger ∧ (regenNowRequest column s).1.wpu.settings = s.wpu.settings ∧
    (regenNowRequest column s).1.wpu.inhibit = s.wpu.inhibit ∧ (regenNowRequest column s).1.wpu.fillRec = s.wpu.fillRec ∧
    (regenNowRequest column s).1.sfu.settings = s.sfu.settings ∧ (regenNowRequest column s).1.cdu.traps = s.cdu.traps ∧
    (regenNowRequest column s).1.cdu.mode = s.cdu.mode ∧ (regenNowRequest column s).1.cdu.safeSet = s.cdu.safeSet := by
  unfold regenNowRequest
  (repeat' split) <;> simp

end Sys2Proof.Machine
end

