-- ==== Sys2Proof/Laws/FrameProgram.lean ====
section
/-! SUPPORT. What the operations of Machine/Program.lean leave unchanged: one law for each. -/

namespace Sys2Proof.Machine

@[simp] theorem queuePhaseRequest_frame (raw : RawPhase) (s : State) :
    (queuePhaseRequest raw s).1.pending = s.pending ∧ (queuePhaseRequest raw s).1.uptimeMs = s.uptimeMs ∧
    (queuePhaseRequest raw s).1.lkp = s.lkp ∧ (queuePhaseRequest raw s).1.wpu = s.wpu ∧
    (queuePhaseRequest raw s).1.sfu = s.sfu ∧ (queuePhaseRequest raw s).1.spt = s.spt ∧
    (queuePhaseRequest raw s).1.dsu = s.dsu ∧ (queuePhaseRequest raw s).1.hcu = s.hcu ∧
    (queuePhaseRequest raw s).1.dru = s.dru ∧ (queuePhaseRequest raw s).1.dyc = s.dyc ∧
    (queuePhaseRequest raw s).1.cdu = s.cdu ∧ (queuePhaseRequest raw s).1.wsc.ctx = s.wsc.ctx ∧
    (queuePhaseRequest raw s).1.wsc.active = s.wsc.active ∧ (queuePhaseRequest raw s).1.wsc.wash = s.wsc.wash := by
  unfold queuePhaseRequest
  (repeat' split) <;> simp

@[simp] theorem cancelPhaseRequest_frame (id : Nat) (s : State) :
    (cancelPhaseRequest id s).1.pending = s.pending ∧ (cancelPhaseRequest id s).1.uptimeMs = s.uptimeMs ∧
    (cancelPhaseRequest id s).1.lkp = s.lkp ∧ (cancelPhaseRequest id s).1.wpu = s.wpu ∧
    (cancelPhaseRequest id s).1.sfu = s.sfu ∧ (cancelPhaseRequest id s).1.spt = s.spt ∧
    (cancelPhaseRequest id s).1.dsu = s.dsu ∧ (cancelPhaseRequest id s).1.hcu = s.hcu ∧
    (cancelPhaseRequest id s).1.dru = s.dru ∧ (cancelPhaseRequest id s).1.dyc = s.dyc ∧
    (cancelPhaseRequest id s).1.cdu = s.cdu ∧ (cancelPhaseRequest id s).1.wsc.ctx = s.wsc.ctx ∧
    (cancelPhaseRequest id s).1.wsc.active = s.wsc.active ∧ (cancelPhaseRequest id s).1.wsc.wash = s.wsc.wash := by
  unfold cancelPhaseRequest
  (repeat' split) <;> simp

@[simp] theorem getPhasesRequest_frame (s : State) :
    (getPhasesRequest s).1.pending = s.pending ∧ (getPhasesRequest s).1.uptimeMs = s.uptimeMs ∧
    (getPhasesRequest s).1.lkp = s.lkp ∧ (getPhasesRequest s).1.wpu = s.wpu ∧ (getPhasesRequest s).1.sfu = s.sfu ∧
    (getPhasesRequest s).1.spt = s.spt ∧ (getPhasesRequest s).1.dsu = s.dsu ∧ (getPhasesRequest s).1.wsc = s.wsc ∧
    (getPhasesRequest s).1.hcu = s.hcu ∧ (getPhasesRequest s).1.dru = s.dru ∧ (getPhasesRequest s).1.dyc = s.dyc ∧
    (getPhasesRequest s).1.cdu = s.cdu := by
  unfold getPhasesRequest
  simp

@[simp] theorem startProgram_frame (s : State) :
    (startProgram s).pending = s.pending ∧ (startProgram s).uptimeMs = s.uptimeMs ∧ (startProgram s).wpu.meters = s.wpu.meters ∧
    (startProgram s).lkp.port = s.lkp.port ∧ (startProgram s).dru.hinge = s.dru.hinge ∧
    (startProgram s).wpu.switches = s.wpu.switches ∧ (startProgram s).wpu.ledger = s.wpu.ledger ∧
    (startProgram s).wpu.settings = s.wpu.settings ∧ (startProgram s).sfu.settings = s.sfu.settings ∧
    (startProgram s).dsu.curve = s.dsu.curve ∧ (startProgram s).dsu.soil = s.dsu.soil ∧
    (startProgram s).dyc.settings = s.dyc.settings ∧ (startProgram s).cdu.traps = s.cdu.traps ∧
    (startProgram s).hcu.temp = s.hcu.temp := by
  unfold startProgram
  simp

@[simp] theorem startRequest_frame (s : State) :
    (startRequest s).1.pending = s.pending ∧ (startRequest s).1.uptimeMs = s.uptimeMs ∧
    (startRequest s).1.wpu.meters = s.wpu.meters ∧ (startRequest s).1.lkp.port = s.lkp.port ∧
    (startRequest s).1.dru.hinge = s.dru.hinge ∧ (startRequest s).1.wpu.switches = s.wpu.switches ∧
    (startRequest s).1.wpu.ledger = s.wpu.ledger ∧ (startRequest s).1.wpu.settings = s.wpu.settings ∧
    (startRequest s).1.sfu.settings = s.sfu.settings ∧ (startRequest s).1.dsu.curve = s.dsu.curve ∧
    (startRequest s).1.dsu.soil = s.dsu.soil ∧ (startRequest s).1.dyc.settings = s.dyc.settings ∧
    (startRequest s).1.cdu.traps = s.cdu.traps ∧ (startRequest s).1.hcu.temp = s.hcu.temp := by
  unfold startRequest
  (repeat' split) <;> simp

@[simp] theorem pauseRequest_frame (s : State) :
    (pauseRequest s).1.pending = s.pending ∧ (pauseRequest s).1.uptimeMs = s.uptimeMs ∧ (pauseRequest s).1.spt = s.spt ∧
    (pauseRequest s).1.dru = s.dru ∧ (pauseRequest s).1.wpu.meters = s.wpu.meters ∧ (pauseRequest s).1.lkp.port = s.lkp.port ∧
    (pauseRequest s).1.wpu.switches = s.wpu.switches ∧ (pauseRequest s).1.wpu.ledger = s.wpu.ledger ∧
    (pauseRequest s).1.wpu.settings = s.wpu.settings ∧ (pauseRequest s).1.wpu.inhibit = s.wpu.inhibit ∧
    (pauseRequest s).1.wpu.fillRec = s.wpu.fillRec ∧ (pauseRequest s).1.sfu.settings = s.sfu.settings ∧
    (pauseRequest s).1.dsu.curve = s.dsu.curve ∧ (pauseRequest s).1.dsu.soil = s.dsu.soil ∧
    (pauseRequest s).1.dyc.settings = s.dyc.settings ∧ (pauseRequest s).1.cdu.traps = s.cdu.traps ∧
    (pauseRequest s).1.cdu.mode = s.cdu.mode ∧ (pauseRequest s).1.cdu.safeSet = s.cdu.safeSet ∧
    (pauseRequest s).1.wsc.queue = s.wsc.queue ∧ (pauseRequest s).1.wsc.ctx = s.wsc.ctx ∧
    (pauseRequest s).1.wsc.active = s.wsc.active ∧ (pauseRequest s).1.hcu.temp = s.hcu.temp := by
  unfold pauseRequest
  (repeat' split) <;> simp

@[simp] theorem resumeRequest_frame (s : State) :
    (resumeRequest s).1.pending = s.pending ∧ (resumeRequest s).1.uptimeMs = s.uptimeMs ∧
    (resumeRequest s).1.wpu.meters = s.wpu.meters ∧ (resumeRequest s).1.lkp.port = s.lkp.port ∧
    (resumeRequest s).1.dru.hinge = s.dru.hinge ∧ (resumeRequest s).1.wpu.switches = s.wpu.switches ∧
    (resumeRequest s).1.wpu.ledger = s.wpu.ledger ∧ (resumeRequest s).1.wpu.settings = s.wpu.settings ∧
    (resumeRequest s).1.sfu.settings = s.sfu.settings ∧ (resumeRequest s).1.dsu.curve = s.dsu.curve ∧
    (resumeRequest s).1.dsu.soil = s.dsu.soil ∧ (resumeRequest s).1.dyc.settings = s.dyc.settings ∧
    (resumeRequest s).1.cdu.traps = s.cdu.traps ∧ (resumeRequest s).1.hcu.temp = s.hcu.temp := by
  unfold resumeRequest
  (repeat' split) <;> simp

@[simp] theorem abortStage_frame (s : State) :
    (abortStage s).pending = s.pending ∧ (abortStage s).uptimeMs = s.uptimeMs ∧ (abortStage s).sfu = s.sfu ∧
    (abortStage s).spt = s.spt ∧ (abortStage s).dsu = s.dsu ∧ (abortStage s).wsc = s.wsc ∧
    (abortStage s).wpu.meters = s.wpu.meters ∧ (abortStage s).lkp.port = s.lkp.port ∧ (abortStage s).dru.hinge = s.dru.hinge ∧
    (abortStage s).wpu.switches = s.wpu.switches ∧ (abortStage s).wpu.ledger = s.wpu.ledger ∧
    (abortStage s).wpu.settings = s.wpu.settings ∧ (abortStage s).wpu.inhibit = s.wpu.inhibit ∧
    (abortStage s).wpu.fillRec = s.wpu.fillRec ∧ (abortStage s).dyc.settings = s.dyc.settings ∧
    (abortStage s).cdu.traps = s.cdu.traps ∧ (abortStage s).cdu.mode = s.cdu.mode ∧ (abortStage s).cdu.safeSet = s.cdu.safeSet ∧
    (abortStage s).hcu.temp = s.hcu.temp := by
  unfold abortStage
  (repeat' split) <;> simp

@[simp] theorem startAbortDrain_frame (s : State) :
    (startAbortDrain s).pending = s.pending ∧ (startAbortDrain s).uptimeMs = s.uptimeMs ∧ (startAbortDrain s).lkp = s.lkp ∧
    (startAbortDrain s).sfu = s.sfu ∧ (startAbortDrain s).spt = s.spt ∧ (startAbortDrain s).dsu = s.dsu ∧
    (startAbortDrain s).hcu = s.hcu ∧ (startAbortDrain s).dru = s.dru ∧ (startAbortDrain s).dyc = s.dyc ∧
    (startAbortDrain s).cdu = s.cdu ∧ (startAbortDrain s).wpu.meters = s.wpu.meters ∧
    (startAbortDrain s).wpu.switches = s.wpu.switches ∧ (startAbortDrain s).wpu.ledger = s.wpu.ledger ∧
    (startAbortDrain s).wpu.settings = s.wpu.settings ∧ (startAbortDrain s).wpu.inhibit = s.wpu.inhibit ∧
    (startAbortDrain s).wpu.fillRec = s.wpu.fillRec ∧ (startAbortDrain s).wsc.queue = s.wsc.queue ∧
    (startAbortDrain s).wsc.ctx = s.wsc.ctx ∧ (startAbortDrain s).wsc.active = s.wsc.active ∧
    (startAbortDrain s).wsc.wash = s.wsc.wash := by
  unfold startAbortDrain
  (repeat' split) <;> simp

@[simp] theorem abortProgram_frame (s : State) :
    (abortProgram s).pending = s.pending ∧ (abortProgram s).uptimeMs = s.uptimeMs ∧ (abortProgram s).wpu.meters = s.wpu.meters ∧
    (abortProgram s).lkp.port = s.lkp.port ∧ (abortProgram s).dru.hinge = s.dru.hinge ∧
    (abortProgram s).wpu.switches = s.wpu.switches ∧ (abortProgram s).wpu.settings = s.wpu.settings ∧
    (abortProgram s).wpu.inhibit = s.wpu.inhibit ∧ (abortProgram s).sfu.settings = s.sfu.settings ∧
    (abortProgram s).dsu.curve = s.dsu.curve ∧ (abortProgram s).dsu.soil = s.dsu.soil ∧
    (abortProgram s).dyc.settings = s.dyc.settings ∧ (abortProgram s).cdu.traps = s.cdu.traps ∧
    (abortProgram s).cdu.safeSet = s.cdu.safeSet ∧ (abortProgram s).hcu.temp = s.hcu.temp := by
  unfold abortProgram
  simp

@[simp] theorem abortRequest_frame (s : State) :
    (abortRequest s).1.pending = s.pending ∧ (abortRequest s).1.uptimeMs = s.uptimeMs ∧
    (abortRequest s).1.wpu.meters = s.wpu.meters ∧ (abortRequest s).1.lkp.port = s.lkp.port ∧
    (abortRequest s).1.dru.hinge = s.dru.hinge ∧ (abortRequest s).1.wpu.switches = s.wpu.switches ∧
    (abortRequest s).1.wpu.settings = s.wpu.settings ∧ (abortRequest s).1.wpu.inhibit = s.wpu.inhibit ∧
    (abortRequest s).1.sfu.settings = s.sfu.settings ∧ (abortRequest s).1.dsu.curve = s.dsu.curve ∧
    (abortRequest s).1.dsu.soil = s.dsu.soil ∧ (abortRequest s).1.dyc.settings = s.dyc.settings ∧
    (abortRequest s).1.cdu.traps = s.cdu.traps ∧ (abortRequest s).1.cdu.safeSet = s.cdu.safeSet ∧
    (abortRequest s).1.hcu.temp = s.hcu.temp := by
  unfold abortRequest
  (repeat' split) <;> simp

@[simp] theorem setHoldSeconds_frame (v : Nat) (s : State) :
    (setHoldSeconds v s).pending = s.pending ∧ (setHoldSeconds v s).uptimeMs = s.uptimeMs ∧ (setHoldSeconds v s).lkp = s.lkp ∧
    (setHoldSeconds v s).wpu = s.wpu ∧ (setHoldSeconds v s).sfu = s.sfu ∧ (setHoldSeconds v s).spt = s.spt ∧
    (setHoldSeconds v s).dsu = s.dsu ∧ (setHoldSeconds v s).hcu = s.hcu ∧ (setHoldSeconds v s).dru = s.dru ∧
    (setHoldSeconds v s).dyc = s.dyc ∧ (setHoldSeconds v s).cdu = s.cdu ∧ (setHoldSeconds v s).wsc.queue = s.wsc.queue ∧
    (setHoldSeconds v s).wsc.ctx = s.wsc.ctx ∧ (setHoldSeconds v s).wsc.wash = s.wsc.wash := by
  unfold setHoldSeconds
  simp

@[simp] theorem skipToDrain_frame (s : State) :
    (skipToDrain s).pending = s.pending ∧ (skipToDrain s).uptimeMs = s.uptimeMs ∧ (skipToDrain s).spt = s.spt ∧
    (skipToDrain s).hcu = s.hcu ∧ (skipToDrain s).dru = s.dru ∧ (skipToDrain s).dyc = s.dyc ∧
    (skipToDrain s).wpu.meters = s.wpu.meters ∧ (skipToDrain s).lkp.port = s.lkp.port ∧
    (skipToDrain s).wpu.switches = s.wpu.switches ∧ (skipToDrain s).wpu.settings = s.wpu.settings ∧
    (skipToDrain s).wpu.inhibit = s.wpu.inhibit ∧ (skipToDrain s).sfu.settings = s.sfu.settings ∧
    (skipToDrain s).dsu.curve = s.dsu.curve ∧ (skipToDrain s).dsu.soil = s.dsu.soil ∧ (skipToDrain s).cdu.traps = s.cdu.traps ∧
    (skipToDrain s).cdu.mode = s.cdu.mode ∧ (skipToDrain s).cdu.safeSet = s.cdu.safeSet ∧
    (skipToDrain s).wsc.queue = s.wsc.queue ∧ (skipToDrain s).wsc.wash = s.wsc.wash := by
  unfold skipToDrain
  simp

@[simp] theorem editHeld_frame (a : ActivePhase) (operation value : Nat) (s : State) :
    (editHeld a operation value s).1.pending = s.pending ∧ (editHeld a operation value s).1.uptimeMs = s.uptimeMs ∧
    (editHeld a operation value s).1.spt = s.spt ∧ (editHeld a operation value s).1.hcu = s.hcu ∧
    (editHeld a operation value s).1.dru = s.dru ∧ (editHeld a operation value s).1.dyc = s.dyc ∧
    (editHeld a operation value s).1.wpu.meters = s.wpu.meters ∧ (editHeld a operation value s).1.lkp.port = s.lkp.port ∧
    (editHeld a operation value s).1.wpu.switches = s.wpu.switches ∧
    (editHeld a operation value s).1.wpu.settings = s.wpu.settings ∧
    (editHeld a operation value s).1.wpu.inhibit = s.wpu.inhibit ∧
    (editHeld a operation value s).1.sfu.settings = s.sfu.settings ∧ (editHeld a operation value s).1.dsu.curve = s.dsu.curve ∧
    (editHeld a operation value s).1.dsu.soil = s.dsu.soil ∧ (editHeld a operation value s).1.cdu.traps = s.cdu.traps ∧
    (editHeld a operation value s).1.cdu.mode = s.cdu.mode ∧ (editHeld a operation value s).1.cdu.safeSet = s.cdu.safeSet ∧
    (editHeld a operation value s).1.wsc.queue = s.wsc.queue ∧ (editHeld a operation value s).1.wsc.wash = s.wsc.wash := by
  unfold editHeld
  (repeat' split) <;> simp

@[simp] theorem editContextRequest_frame (operation value : Nat) (s : State) :
    (editContextRequest operation value s).1.pending = s.pending ∧
    (editContextRequest operation value s).1.uptimeMs = s.uptimeMs ∧ (editContextRequest operation value s).1.spt = s.spt ∧
    (editContextRequest operation value s).1.hcu = s.hcu ∧ (editContextRequest operation value s).1.dru = s.dru ∧
    (editContextRequest operation value s).1.dyc = s.dyc ∧ (editContextRequest operation value s).1.wpu.meters = s.wpu.meters ∧
    (editContextRequest operation value s).1.lkp.port = s.lkp.port ∧
    (editContextRequest operation value s).1.wpu.switches = s.wpu.switches ∧
    (editContextRequest operation value s).1.wpu.settings = s.wpu.settings ∧
    (editContextRequest operation value s).1.wpu.inhibit = s.wpu.inhibit ∧
    (editContextRequest operation value s).1.sfu.settings = s.sfu.settings ∧
    (editContextRequest operation value s).1.dsu.curve = s.dsu.curve ∧
    (editContextRequest operation value s).1.dsu.soil = s.dsu.soil ∧
    (editContextRequest operation value s).1.cdu.traps = s.cdu.traps ∧
    (editContextRequest operation value s).1.cdu.mode = s.cdu.mode ∧
    (editContextRequest operation value s).1.cdu.safeSet = s.cdu.safeSet ∧
    (editContextRequest operation value s).1.wsc.queue = s.wsc.queue ∧
    (editContextRequest operation value s).1.wsc.wash = s.wsc.wash := by
  unfold editContextRequest
  (repeat' split) <;> simp

@[simp] theorem getContextRequest_frame (s : State) :
    (getContextRequest s).1.pending = s.pending ∧ (getContextRequest s).1.uptimeMs = s.uptimeMs ∧
    (getContextRequest s).1.lkp = s.lkp ∧ (getContextRequest s).1.wpu = s.wpu ∧ (getContextRequest s).1.sfu = s.sfu ∧
    (getContextRequest s).1.spt = s.spt ∧ (getContextRequest s).1.dsu = s.dsu ∧ (getContextRequest s).1.wsc = s.wsc ∧
    (getContextRequest s).1.hcu = s.hcu ∧ (getContextRequest s).1.dru = s.dru ∧ (getContextRequest s).1.dyc = s.dyc ∧
    (getContextRequest s).1.cdu = s.cdu := by
  unfold getContextRequest
  simp

@[simp] theorem setPolicyRequest_frame (traps : CondSet) (s : State) :
    (setPolicyRequest traps s).1.pending = s.pending ∧ (setPolicyRequest traps s).1.uptimeMs = s.uptimeMs ∧
    (setPolicyRequest traps s).1.lkp = s.lkp ∧ (setPolicyRequest traps s).1.wpu = s.wpu ∧
    (setPolicyRequest traps s).1.sfu = s.sfu ∧ (setPolicyRequest traps s).1.spt = s.spt ∧
    (setPolicyRequest traps s).1.dsu = s.dsu ∧ (setPolicyRequest traps s).1.wsc = s.wsc ∧
    (setPolicyRequest traps s).1.hcu = s.hcu ∧ (setPolicyRequest traps s).1.dru = s.dru ∧
    (setPolicyRequest traps s).1.dyc = s.dyc ∧ (setPolicyRequest traps s).1.cdu.mode = s.cdu.mode ∧
    (setPolicyRequest traps s).1.cdu.safeSet = s.cdu.safeSet := by
  unfold setPolicyRequest
  simp

@[simp] theorem clearConditionsRequest_frame (causes flags : CondSet) (s : State) :
    (clearConditionsRequest causes flags s).1.pending = s.pending ∧
    (clearConditionsRequest causes flags s).1.uptimeMs = s.uptimeMs ∧ (clearConditionsRequest causes flags s).1.lkp = s.lkp ∧
    (clearConditionsRequest causes flags s).1.wpu = s.wpu ∧ (clearConditionsRequest causes flags s).1.sfu = s.sfu ∧
    (clearConditionsRequest causes flags s).1.spt = s.spt ∧ (clearConditionsRequest causes flags s).1.dsu = s.dsu ∧
    (clearConditionsRequest causes flags s).1.wsc = s.wsc ∧ (clearConditionsRequest causes flags s).1.hcu = s.hcu ∧
    (clearConditionsRequest causes flags s).1.dru = s.dru ∧ (clearConditionsRequest causes flags s).1.dyc = s.dyc ∧
    (clearConditionsRequest causes flags s).1.cdu.traps = s.cdu.traps ∧
    (clearConditionsRequest causes flags s).1.cdu.mode = s.cdu.mode ∧
    (clearConditionsRequest causes flags s).1.cdu.safeSet = s.cdu.safeSet := by
  unfold clearConditionsRequest
  simp

@[simp] theorem getConditionsRequest_frame (s : State) :
    (getConditionsRequest s).1.pending = s.pending ∧ (getConditionsRequest s).1.uptimeMs = s.uptimeMs ∧
    (getConditionsRequest s).1.lkp = s.lkp ∧ (getConditionsRequest s).1.wpu = s.wpu ∧ (getConditionsRequest s).1.sfu = s.sfu ∧
    (getConditionsRequest s).1.spt = s.spt ∧ (getConditionsRequest s).1.dsu = s.dsu ∧ (getConditionsRequest s).1.wsc = s.wsc ∧
    (getConditionsRequest s).1.hcu = s.hcu ∧ (getConditionsRequest s).1.dru = s.dru ∧ (getConditionsRequest s).1.dyc = s.dyc ∧
    (getConditionsRequest s).1.cdu = s.cdu := by
  unfold getConditionsRequest
  simp

@[simp] theorem leaveSafe_frame (s : State) :
    (leaveSafe s).pending = s.pending ∧ (leaveSafe s).uptimeMs = s.uptimeMs ∧ (leaveSafe s).dsu = s.dsu ∧
    (leaveSafe s).wsc = s.wsc ∧ (leaveSafe s).dru = s.dru ∧ (leaveSafe s).dyc = s.dyc ∧
    (leaveSafe s).wpu.meters = s.wpu.meters ∧ (leaveSafe s).lkp.port = s.lkp.port ∧
    (leaveSafe s).wpu.switches = s.wpu.switches ∧ (leaveSafe s).wpu.ledger = s.wpu.ledger ∧
    (leaveSafe s).wpu.settings = s.wpu.settings ∧ (leaveSafe s).wpu.fillRec = s.wpu.fillRec ∧
    (leaveSafe s).sfu.settings = s.sfu.settings ∧ (leaveSafe s).cdu.traps = s.cdu.traps ∧
    (leaveSafe s).hcu.temp = s.hcu.temp := by
  unfold leaveSafe
  (try dsimp only) <;> (try and_intros) <;> first
  | (simp; done)
  | (simp; rfl)
  | rfl
  | (repeat' split) <;> first | (simp; done) | (simp; rfl) | rfl | (simp_all [pair_parts]; done) | (simp_all [pair_parts]; rfl)

@[simp] theorem leaveSafeRequest_frame (s : State) :
    (leaveSafeRequest s).1.pending = s.pending ∧ (leaveSafeRequest s).1.uptimeMs = s.uptimeMs ∧
    (leaveSafeRequest s).1.dsu = s.dsu ∧ (leaveSafeRequest s).1.wsc = s.wsc ∧ (leaveSafeRequest s).1.dru = s.dru ∧
    (leaveSafeRequest s).1.dyc = s.dyc ∧ (leaveSafeRequest s).1.wpu.meters = s.wpu.meters ∧
    (leaveSafeRequest s).1.lkp.port = s.lkp.port ∧ (leaveSafeRequest s).1.wpu.switches = s.wpu.switches ∧
    (leaveSafeRequest s).1.wpu.ledger = s.wpu.ledger ∧ (leaveSafeRequest s).1.wpu.settings = s.wpu.settings ∧
    (leaveSafeRequest s).1.wpu.fillRec = s.wpu.fillRec ∧ (leaveSafeRequest s).1.sfu.settings = s.sfu.settings ∧
    (leaveSafeRequest s).1.cdu.traps = s.cdu.traps ∧ (leaveSafeRequest s).1.hcu.temp = s.hcu.temp := by
  unfold leaveSafeRequest
  (repeat' split) <;> simp

end Sys2Proof.Machine
end

