-- ==== Sys2Proof/Laws/FrameLink.lean ====
section
/-! SUPPORT. What the operations of Machine/Link.lean leave unchanged: one law for each. -/

namespace Sys2Proof.Machine

@[simp] theorem serve_frame (kind : Byte) (h : State → State × Answer) (s : State) :
    (serve kind h s).pending = (h s).1.pending ∧ (serve kind h s).uptimeMs = (h s).1.uptimeMs ∧
    (serve kind h s).wpu = (h s).1.wpu ∧ (serve kind h s).sfu = (h s).1.sfu ∧
    (serve kind h s).spt = (h s).1.spt ∧ (serve kind h s).dsu = (h s).1.dsu ∧
    (serve kind h s).wsc = (h s).1.wsc ∧ (serve kind h s).hcu = (h s).1.hcu ∧
    (serve kind h s).dru = (h s).1.dru ∧ (serve kind h s).dyc = (h s).1.dyc ∧
    (serve kind h s).cdu = (h s).1.cdu := by
  simp [serve]

@[simp] theorem scanAttention_frame (s : State) :
    (scanAttention s).pending = s.pending ∧ (scanAttention s).uptimeMs = s.uptimeMs ∧ (scanAttention s).wpu = s.wpu ∧
    (scanAttention s).sfu = s.sfu ∧ (scanAttention s).spt = s.spt ∧ (scanAttention s).dsu = s.dsu ∧
    (scanAttention s).wsc = s.wsc ∧ (scanAttention s).hcu = s.hcu ∧ (scanAttention s).dru = s.dru ∧
    (scanAttention s).dyc = s.dyc ∧ (scanAttention s).cdu = s.cdu := by
  unfold scanAttention
  (repeat' split) <;> simp

@[simp] theorem getAttentionRequest_frame (s : State) :
    (getAttentionRequest s).1.pending = s.pending ∧ (getAttentionRequest s).1.uptimeMs = s.uptimeMs ∧
    (getAttentionRequest s).1.lkp = s.lkp ∧ (getAttentionRequest s).1.wpu = s.wpu ∧ (getAttentionRequest s).1.sfu = s.sfu ∧
    (getAttentionRequest s).1.spt = s.spt ∧ (getAttentionRequest s).1.dsu = s.dsu ∧ (getAttentionRequest s).1.wsc = s.wsc ∧
    (getAttentionRequest s).1.hcu = s.hcu ∧ (getAttentionRequest s).1.dru = s.dru ∧ (getAttentionRequest s).1.dyc = s.dyc ∧
    (getAttentionRequest s).1.cdu = s.cdu := by
  unfold getAttentionRequest
  (repeat' split) <;> simp

@[simp] theorem clearPending_frame (src : Source) (s : State) :
    (clearPending src s).uptimeMs = s.uptimeMs ∧ (clearPending src s).wpu = s.wpu ∧ (clearPending src s).sfu = s.sfu ∧
    (clearPending src s).spt = s.spt ∧ (clearPending src s).dsu = s.dsu ∧ (clearPending src s).wsc = s.wsc ∧
    (clearPending src s).hcu = s.hcu ∧ (clearPending src s).dru = s.dru ∧ (clearPending src s).dyc = s.dyc ∧
    (clearPending src s).cdu = s.cdu ∧ (clearPending src s).lkp.port = s.lkp.port := by
  unfold clearPending
  and_intros <;> rfl

@[simp] theorem emptyLatch_frame (s : State) :
    (emptyLatch s).pending = s.pending ∧ (emptyLatch s).uptimeMs = s.uptimeMs ∧ (emptyLatch s).wpu = s.wpu ∧
    (emptyLatch s).sfu = s.sfu ∧ (emptyLatch s).spt = s.spt ∧ (emptyLatch s).dsu = s.dsu ∧ (emptyLatch s).wsc = s.wsc ∧
    (emptyLatch s).hcu = s.hcu ∧ (emptyLatch s).dru = s.dru ∧ (emptyLatch s).dyc = s.dyc ∧ (emptyLatch s).cdu = s.cdu := by
  unfold emptyLatch
  simp

@[simp] theorem ackAttentionRequest_frame (source : Nat) (s : State) :
    (ackAttentionRequest source s).1.uptimeMs = s.uptimeMs ∧ (ackAttentionRequest source s).1.wpu = s.wpu ∧
    (ackAttentionRequest source s).1.sfu = s.sfu ∧ (ackAttentionRequest source s).1.spt = s.spt ∧
    (ackAttentionRequest source s).1.dsu = s.dsu ∧ (ackAttentionRequest source s).1.wsc = s.wsc ∧
    (ackAttentionRequest source s).1.hcu = s.hcu ∧ (ackAttentionRequest source s).1.dru = s.dru ∧
    (ackAttentionRequest source s).1.dyc = s.dyc ∧ (ackAttentionRequest source s).1.cdu = s.cdu := by
  unfold ackAttentionRequest
  (repeat' split) <;> simp

@[simp] theorem getStatusRequest_frame (s : State) :
    (getStatusRequest s).1.pending = s.pending ∧ (getStatusRequest s).1.uptimeMs = s.uptimeMs ∧
    (getStatusRequest s).1.lkp = s.lkp ∧ (getStatusRequest s).1.wpu = s.wpu ∧ (getStatusRequest s).1.sfu = s.sfu ∧
    (getStatusRequest s).1.spt = s.spt ∧ (getStatusRequest s).1.dsu = s.dsu ∧ (getStatusRequest s).1.wsc = s.wsc ∧
    (getStatusRequest s).1.hcu = s.hcu ∧ (getStatusRequest s).1.dru = s.dru ∧ (getStatusRequest s).1.dyc = s.dyc ∧
    (getStatusRequest s).1.cdu = s.cdu := by
  unfold getStatusRequest
  simp

@[simp] theorem resetRequest_frame (s : State) :
    (resetRequest s).1.pending = s.pending ∧ (resetRequest s).1.uptimeMs = s.uptimeMs ∧ (resetRequest s).1.wpu = s.wpu ∧
    (resetRequest s).1.sfu = s.sfu ∧ (resetRequest s).1.spt = s.spt ∧ (resetRequest s).1.dsu = s.dsu ∧
    (resetRequest s).1.wsc = s.wsc ∧ (resetRequest s).1.hcu = s.hcu ∧ (resetRequest s).1.dru = s.dru ∧
    (resetRequest s).1.dyc = s.dyc ∧ (resetRequest s).1.cdu = s.cdu := by
  unfold resetRequest
  simp

@[simp] theorem handle_frame (i : Instr) (s : State) :
    (handle i s).1.uptimeMs = s.uptimeMs ∧ (handle i s).1.wpu.meters = s.wpu.meters ∧ (handle i s).1.dru.hinge = s.dru.hinge ∧
    (handle i s).1.wpu.switches = s.wpu.switches ∧ (handle i s).1.hcu.temp = s.hcu.temp := by
  cases i <;> (delta handle; dsimp only; and_intros)
  all_goals first | (simp; done) | rfl

@[simp] theorem answerDecoded_frame (d : Decoded) (s : State) :
    (answerDecoded d s).1.uptimeMs = s.uptimeMs ∧ (answerDecoded d s).1.wpu.meters = s.wpu.meters ∧
    (answerDecoded d s).1.dru.hinge = s.dru.hinge ∧ (answerDecoded d s).1.wpu.switches = s.wpu.switches ∧
    (answerDecoded d s).1.hcu.temp = s.hcu.temp := by
  unfold answerDecoded
  (repeat' split) <;> simp

@[simp] theorem superviseFrame_frame (s : State) :
    (superviseFrame s).pending = s.pending ∧ (superviseFrame s).uptimeMs = s.uptimeMs ∧ (superviseFrame s).wpu = s.wpu ∧
    (superviseFrame s).sfu = s.sfu ∧ (superviseFrame s).spt = s.spt ∧ (superviseFrame s).dsu = s.dsu ∧
    (superviseFrame s).wsc = s.wsc ∧ (superviseFrame s).hcu = s.hcu ∧ (superviseFrame s).dru = s.dru ∧
    (superviseFrame s).dyc = s.dyc ∧ (superviseFrame s).cdu = s.cdu ∧ (superviseFrame s).lkp.port = s.lkp.port := by
  unfold superviseFrame
  and_intros <;> rfl

@[simp] theorem serveFrame_frame (f : Frame) (s : State) :
    (serveFrame f s).uptimeMs = s.uptimeMs ∧ (serveFrame f s).wpu.meters = s.wpu.meters ∧
    (serveFrame f s).dru.hinge = s.dru.hinge ∧ (serveFrame f s).wpu.switches = s.wpu.switches ∧
    (serveFrame f s).hcu.temp = s.hcu.temp := by
  unfold serveFrame
  (repeat' split) <;> simp

@[simp] theorem bufferFrame_frame (f : Frame) (s : State) :
    (bufferFrame f s).pending = s.pending ∧ (bufferFrame f s).uptimeMs = s.uptimeMs ∧ (bufferFrame f s).wpu = s.wpu ∧
    (bufferFrame f s).sfu = s.sfu ∧ (bufferFrame f s).spt = s.spt ∧ (bufferFrame f s).dsu = s.dsu ∧
    (bufferFrame f s).wsc = s.wsc ∧ (bufferFrame f s).hcu = s.hcu ∧ (bufferFrame f s).dru = s.dru ∧
    (bufferFrame f s).dyc = s.dyc ∧ (bufferFrame f s).cdu = s.cdu := by
  unfold bufferFrame
  (repeat' split) <;> simp

@[simp] theorem frameArrives_frame (f : Frame) (s : State) :
    (frameArrives f s).uptimeMs = s.uptimeMs ∧ (frameArrives f s).wpu.meters = s.wpu.meters ∧
    (frameArrives f s).dru.hinge = s.dru.hinge ∧ (frameArrives f s).wpu.switches = s.wpu.switches ∧
    (frameArrives f s).hcu.temp = s.hcu.temp := by
  unfold frameArrives
  (repeat' split) <;> simp

@[simp] theorem takeFrame_frame (f : Frame) (s : State) :
    (takeFrame f s).uptimeMs = s.uptimeMs ∧ (takeFrame f s).wpu.meters = s.wpu.meters ∧
    (takeFrame f s).dru.hinge = s.dru.hinge ∧ (takeFrame f s).wpu.switches = s.wpu.switches ∧
    (takeFrame f s).hcu.temp = s.hcu.temp := by
  unfold takeFrame
  (repeat' split) <;> simp

@[simp] theorem setReceiver_frame (r : Receiver) (s : State) :
    (setReceiver r s).pending = s.pending ∧ (setReceiver r s).uptimeMs = s.uptimeMs ∧ (setReceiver r s).wpu = s.wpu ∧
    (setReceiver r s).sfu = s.sfu ∧ (setReceiver r s).spt = s.spt ∧ (setReceiver r s).dsu = s.dsu ∧
    (setReceiver r s).wsc = s.wsc ∧ (setReceiver r s).hcu = s.hcu ∧ (setReceiver r s).dru = s.dru ∧
    (setReceiver r s).dyc = s.dyc ∧ (setReceiver r s).cdu = s.cdu := by
  unfold setReceiver
  simp

@[simp] theorem takeInside_frame (bytes : List Byte) (b : Byte) (s : State) :
    (takeInside bytes b s).uptimeMs = s.uptimeMs ∧ (takeInside bytes b s).wpu.meters = s.wpu.meters ∧
    (takeInside bytes b s).dru.hinge = s.dru.hinge ∧ (takeInside bytes b s).wpu.switches = s.wpu.switches ∧
    (takeInside bytes b s).hcu.temp = s.hcu.temp := by
  unfold takeInside
  dsimp only
  (repeat' split) <;> simp

@[simp] theorem takeByte_frame (b : Byte) (s : State) :
    (takeByte b s).uptimeMs = s.uptimeMs ∧ (takeByte b s).wpu.meters = s.wpu.meters ∧ (takeByte b s).dru.hinge = s.dru.hinge ∧
    (takeByte b s).wpu.switches = s.wpu.switches ∧ (takeByte b s).hcu.temp = s.hcu.temp := by
  unfold takeByte
  (repeat' split) <;> simp

@[simp] theorem dropPartial_frame (s : State) :
    (dropPartial s).pending = s.pending ∧ (dropPartial s).uptimeMs = s.uptimeMs ∧ (dropPartial s).wpu = s.wpu ∧
    (dropPartial s).sfu = s.sfu ∧ (dropPartial s).spt = s.spt ∧ (dropPartial s).dsu = s.dsu ∧ (dropPartial s).wsc = s.wsc ∧
    (dropPartial s).hcu = s.hcu ∧ (dropPartial s).dru = s.dru ∧ (dropPartial s).dyc = s.dyc ∧ (dropPartial s).cdu = s.cdu := by
  unfold dropPartial
  (repeat' split) <;> simp

@[simp] theorem serveWaiting_frame (s : State) :
    (serveWaiting s).uptimeMs = s.uptimeMs ∧ (serveWaiting s).wpu.meters = s.wpu.meters ∧
    (serveWaiting s).dru.hinge = s.dru.hinge ∧ (serveWaiting s).wpu.switches = s.wpu.switches ∧
    (serveWaiting s).hcu.temp = s.hcu.temp := by
  unfold serveWaiting
  (repeat' split) <;> simp

@[simp] theorem nextFrame_frame (s : State) :
    (nextFrame s).uptimeMs = s.uptimeMs ∧ (nextFrame s).wpu.meters = s.wpu.meters ∧ (nextFrame s).dru.hinge = s.dru.hinge ∧
    (nextFrame s).wpu.switches = s.wpu.switches ∧ (nextFrame s).hcu.temp = s.hcu.temp := by
  unfold nextFrame
  (repeat' split) <;> simp

end Sys2Proof.Machine
end

