-- ==== Sys2Proof/Laws/FrameReset.lean ====
section
/-! SUPPORT. What the operations of Machine/Reset.lean leave unchanged: one law for each. -/

namespace Sys2Proof.Machine

@[simp] theorem reportSample_frame (s : State) :
    (reportSample s).pending = s.pending ∧ (reportSample s).uptimeMs = s.uptimeMs ∧ (reportSample s).wpu.meters = s.wpu.meters ∧
    (reportSample s).lkp.port = s.lkp.port ∧ (reportSample s).dru.hinge = s.dru.hinge ∧
    (reportSample s).wpu.switches = s.wpu.switches ∧ (reportSample s).wpu.ledger = s.wpu.ledger ∧
    (reportSample s).wpu.settings = s.wpu.settings ∧ (reportSample s).wpu.fillRec = s.wpu.fillRec ∧
    (reportSample s).sfu.settings = s.sfu.settings ∧ (reportSample s).dsu.curve = s.dsu.curve ∧
    (reportSample s).dsu.soil = s.dsu.soil ∧ (reportSample s).dyc.settings = s.dyc.settings ∧
    (reportSample s).cdu.traps = s.cdu.traps ∧ (reportSample s).wsc.queue = s.wsc.queue ∧
    (reportSample s).hcu.temp = s.hcu.temp := by
  unfold reportSample
  (repeat' split) <;> simp

@[simp] theorem sampleTemperature_frame (reading : Int) (s : State) :
    (sampleTemperature reading s).pending = s.pending ∧ (sampleTemperature reading s).uptimeMs = s.uptimeMs ∧
    (sampleTemperature reading s).wpu.meters = s.wpu.meters ∧ (sampleTemperature reading s).lkp.port = s.lkp.port ∧
    (sampleTemperature reading s).dru.hinge = s.dru.hinge ∧ (sampleTemperature reading s).wpu.switches = s.wpu.switches ∧
    (sampleTemperature reading s).wpu.ledger = s.wpu.ledger ∧ (sampleTemperature reading s).wpu.settings = s.wpu.settings ∧
    (sampleTemperature reading s).wpu.fillRec = s.wpu.fillRec ∧ (sampleTemperature reading s).sfu.settings = s.sfu.settings ∧
    (sampleTemperature reading s).dsu.curve = s.dsu.curve ∧ (sampleTemperature reading s).dsu.soil = s.dsu.soil ∧
    (sampleTemperature reading s).dyc.settings = s.dyc.settings ∧ (sampleTemperature reading s).cdu.traps = s.cdu.traps ∧
    (sampleTemperature reading s).wsc.queue = s.wsc.queue := by
  unfold sampleTemperature
  simp

@[simp] theorem settleCap_frame (e : Entry) (isOpen : Bool) (s : State) :
    (settleCap e isOpen s).pending = s.pending ∧ (settleCap e isOpen s).uptimeMs = s.uptimeMs ∧
    (settleCap e isOpen s).wpu = s.wpu ∧ (settleCap e isOpen s).sfu = s.sfu ∧ (settleCap e isOpen s).dsu = s.dsu ∧
    (settleCap e isOpen s).wsc = s.wsc ∧ (settleCap e isOpen s).hcu = s.hcu ∧ (settleCap e isOpen s).dru = s.dru ∧
    (settleCap e isOpen s).dyc = s.dyc ∧ (settleCap e isOpen s).cdu = s.cdu ∧ (settleCap e isOpen s).lkp.port = s.lkp.port := by
  unfold settleCap
  (repeat' split) <;> simp

@[simp] theorem settleLow_frame (e : Entry) (low : Bool) (s : State) :
    (settleLow e low s).pending = s.pending ∧ (settleLow e low s).uptimeMs = s.uptimeMs ∧ (settleLow e low s).wpu = s.wpu ∧
    (settleLow e low s).sfu = s.sfu ∧ (settleLow e low s).dsu = s.dsu ∧ (settleLow e low s).wsc = s.wsc ∧
    (settleLow e low s).hcu = s.hcu ∧ (settleLow e low s).dru = s.dru ∧ (settleLow e low s).dyc = s.dyc ∧
    (settleLow e low s).cdu = s.cdu ∧ (settleLow e low s).lkp.port = s.lkp.port := by
  unfold settleLow
  (repeat' split) <;> simp

@[simp] theorem scanEntry_frame (i : Inputs) (e : Entry) (s : State) :
    (scanEntry i e s).pending = s.pending ∧ (scanEntry i e s).uptimeMs = s.uptimeMs ∧ (scanEntry i e s).wpu = s.wpu ∧
    (scanEntry i e s).sfu = s.sfu ∧ (scanEntry i e s).dsu = s.dsu ∧ (scanEntry i e s).wsc = s.wsc ∧
    (scanEntry i e s).hcu = s.hcu ∧ (scanEntry i e s).dru = s.dru ∧ (scanEntry i e s).dyc = s.dyc ∧
    (scanEntry i e s).cdu = s.cdu ∧ (scanEntry i e s).lkp.port = s.lkp.port := by
  unfold scanEntry
  simp

@[simp] theorem scanSupply_frame (i : Inputs) (s : State) :
    (scanSupply i s).pending = s.pending ∧ (scanSupply i s).uptimeMs = s.uptimeMs ∧ (scanSupply i s).wpu = s.wpu ∧
    (scanSupply i s).sfu = s.sfu ∧ (scanSupply i s).dsu = s.dsu ∧ (scanSupply i s).wsc = s.wsc ∧ (scanSupply i s).hcu = s.hcu ∧
    (scanSupply i s).dru = s.dru ∧ (scanSupply i s).dyc = s.dyc ∧ (scanSupply i s).cdu = s.cdu ∧
    (scanSupply i s).lkp.port = s.lkp.port := by
  unfold scanSupply
  simp

@[simp] theorem scanWater_frame (i : Inputs) (s : State) :
    (scanWater i s).pending = s.pending ∧ (scanWater i s).uptimeMs = s.uptimeMs ∧ (scanWater i s).wpu.meters = s.wpu.meters ∧
    (scanWater i s).lkp.port = s.lkp.port ∧ (scanWater i s).dru.hinge = s.dru.hinge ∧
    (scanWater i s).wpu.ledger = s.wpu.ledger ∧ (scanWater i s).wpu.settings = s.wpu.settings ∧
    (scanWater i s).wpu.fillRec = s.wpu.fillRec ∧ (scanWater i s).sfu.settings = s.sfu.settings ∧
    (scanWater i s).dsu.curve = s.dsu.curve ∧ (scanWater i s).dsu.soil = s.dsu.soil ∧
    (scanWater i s).dyc.settings = s.dyc.settings ∧ (scanWater i s).cdu.traps = s.cdu.traps ∧
    (scanWater i s).wsc.queue = s.wsc.queue ∧ (scanWater i s).wsc.ctx = s.wsc.ctx ∧ (scanWater i s).wsc.active = s.wsc.active ∧
    (scanWater i s).hcu.temp = s.hcu.temp := by
  unfold scanWater
  (try dsimp only) <;> (try and_intros) <;> first
  | (simp; done)
  | (simp; rfl)
  | rfl
  | (repeat' split) <;> first | (simp; done) | (simp; rfl) | rfl | (simp_all [pair_parts]; done) | (simp_all [pair_parts]; rfl)

@[simp] theorem firstScans_frame (i : Inputs) (s : State) :
    (firstScans i s).pending = s.pending ∧ (firstScans i s).uptimeMs = s.uptimeMs ∧ (firstScans i s).wpu.meters = s.wpu.meters ∧
    (firstScans i s).lkp.port = s.lkp.port ∧ (firstScans i s).dru.hinge = s.dru.hinge ∧
    (firstScans i s).wpu.ledger = s.wpu.ledger ∧ (firstScans i s).wpu.settings = s.wpu.settings ∧
    (firstScans i s).wpu.fillRec = s.wpu.fillRec ∧ (firstScans i s).sfu.settings = s.sfu.settings ∧
    (firstScans i s).dsu.curve = s.dsu.curve ∧ (firstScans i s).dsu.soil = s.dsu.soil ∧
    (firstScans i s).dyc.settings = s.dyc.settings ∧ (firstScans i s).cdu.traps = s.cdu.traps ∧
    (firstScans i s).wsc.queue = s.wsc.queue := by
  unfold firstScans
  simp

@[simp] theorem powerOn_frame (i : Inputs) (s : State) :
    (powerOn i s).pending = s.pending := by
  unfold powerOn
  (try dsimp only) <;> (try and_intros) <;> first
  | (simp; done)
  | (simp; rfl)
  | rfl
  | (repeat' split) <;> first | (simp; done) | (simp; rfl) | rfl | (simp_all [pair_parts]; done) | (simp_all [pair_parts]; rfl)

@[simp] theorem resetWater_frame (s : State) :
    (resetWater s).pending = s.pending ∧ (resetWater s).uptimeMs = s.uptimeMs ∧ (resetWater s).spt = s.spt ∧
    (resetWater s).dsu = s.dsu ∧ (resetWater s).hcu = s.hcu ∧ (resetWater s).dru = s.dru ∧ (resetWater s).dyc = s.dyc ∧
    (resetWater s).cdu = s.cdu ∧ (resetWater s).lkp.port = s.lkp.port ∧ (resetWater s).wpu.settings = s.wpu.settings ∧
    (resetWater s).sfu.settings = s.sfu.settings ∧ (resetWater s).wsc.queue = s.wsc.queue ∧
    (resetWater s).wsc.active = s.wsc.active ∧ (resetWater s).wsc.wash = s.wsc.wash := by
  unfold resetWater
  dsimp only
  (repeat' split) <;> simp

@[simp] theorem endWaitingRun_frame (s : State) :
    (endWaitingRun s).pending = s.pending ∧ (endWaitingRun s).uptimeMs = s.uptimeMs ∧ (endWaitingRun s).wpu = s.wpu ∧
    (endWaitingRun s).spt = s.spt ∧ (endWaitingRun s).dsu = s.dsu ∧ (endWaitingRun s).wsc = s.wsc ∧
    (endWaitingRun s).hcu = s.hcu ∧ (endWaitingRun s).dru = s.dru ∧ (endWaitingRun s).dyc = s.dyc ∧
    (endWaitingRun s).cdu = s.cdu ∧ (endWaitingRun s).lkp.port = s.lkp.port ∧
    (endWaitingRun s).sfu.settings = s.sfu.settings := by
  unfold endWaitingRun
  (repeat' split) <;> simp

@[simp] theorem resetSoftener_frame (s : State) :
    (resetSoftener s).pending = s.pending ∧ (resetSoftener s).uptimeMs = s.uptimeMs ∧ (resetSoftener s).wpu = s.wpu ∧
    (resetSoftener s).dsu = s.dsu ∧ (resetSoftener s).wsc = s.wsc ∧ (resetSoftener s).hcu = s.hcu ∧
    (resetSoftener s).dru = s.dru ∧ (resetSoftener s).dyc = s.dyc ∧ (resetSoftener s).cdu = s.cdu ∧
    (resetSoftener s).lkp.port = s.lkp.port ∧ (resetSoftener s).sfu.settings = s.sfu.settings := by
  unfold resetSoftener
  (repeat' split) <;> simp

@[simp] theorem resetDosing_frame (s : State) :
    (resetDosing s).pending = s.pending ∧ (resetDosing s).uptimeMs = s.uptimeMs ∧ (resetDosing s).lkp = s.lkp ∧
    (resetDosing s).wpu = s.wpu ∧ (resetDosing s).sfu = s.sfu ∧ (resetDosing s).spt = s.spt ∧ (resetDosing s).wsc = s.wsc ∧
    (resetDosing s).hcu = s.hcu ∧ (resetDosing s).dru = s.dru ∧ (resetDosing s).dyc = s.dyc ∧ (resetDosing s).cdu = s.cdu ∧
    (resetDosing s).dsu.curve = s.dsu.curve ∧ (resetDosing s).dsu.soil = s.dsu.soil := by
  unfold resetDosing
  simp

@[simp] theorem resetOthers_frame (i : Inputs) (s : State) :
    (resetOthers i s).pending = s.pending ∧ (resetOthers i s).wpu = s.wpu ∧ (resetOthers i s).sfu = s.sfu ∧
    (resetOthers i s).spt = s.spt ∧ (resetOthers i s).dsu = s.dsu ∧ (resetOthers i s).dyc.settings = s.dyc.settings ∧
    (resetOthers i s).cdu.traps = s.cdu.traps := by
  unfold resetOthers
  simp

@[simp] theorem commandedReset_frame (i : Inputs) (s : State) :
    (commandedReset i s).pending = s.pending ∧ (commandedReset i s).wpu.settings = s.wpu.settings ∧
    (commandedReset i s).sfu.settings = s.sfu.settings ∧ (commandedReset i s).dsu.curve = s.dsu.curve ∧
    (commandedReset i s).dsu.soil = s.dsu.soil ∧ (commandedReset i s).dyc.settings = s.dyc.settings ∧
    (commandedReset i s).cdu.traps = s.cdu.traps := by
  unfold commandedReset
  simp

end Sys2Proof.Machine
end

