-- ==== Sys2Proof/Laws/FrameTime.lean ====
section
/-! SUPPORT. What the operations of Machine/Time.lean leave unchanged: one law for each. -/

namespace Sys2Proof.Machine

@[simp] theorem tickTest_frame (a : Actuator) (s : State) :
    (tickTest a s).pending = s.pending ∧ (tickTest a s).uptimeMs = s.uptimeMs ∧ (tickTest a s).lkp = s.lkp ∧
    (tickTest a s).wpu = s.wpu ∧ (tickTest a s).sfu = s.sfu ∧ (tickTest a s).spt = s.spt ∧ (tickTest a s).dsu = s.dsu ∧
    (tickTest a s).wsc = s.wsc ∧ (tickTest a s).hcu = s.hcu ∧ (tickTest a s).dru = s.dru ∧ (tickTest a s).dyc = s.dyc ∧
    (tickTest a s).cdu.traps = s.cdu.traps ∧ (tickTest a s).cdu.mode = s.cdu.mode ∧
    (tickTest a s).cdu.safeSet = s.cdu.safeSet := by
  unfold tickTest
  (repeat' split) <;> simp

@[simp] theorem tickTests_frame (s : State) :
    (tickTests s).pending = s.pending ∧ (tickTests s).uptimeMs = s.uptimeMs ∧ (tickTests s).lkp = s.lkp ∧
    (tickTests s).wpu = s.wpu ∧ (tickTests s).sfu = s.sfu ∧ (tickTests s).spt = s.spt ∧ (tickTests s).dsu = s.dsu ∧
    (tickTests s).wsc = s.wsc ∧ (tickTests s).hcu = s.hcu ∧ (tickTests s).dru = s.dru ∧ (tickTests s).dyc = s.dyc ∧
    (tickTests s).cdu.traps = s.cdu.traps ∧ (tickTests s).cdu.mode = s.cdu.mode ∧
    (tickTests s).cdu.safeSet = s.cdu.safeSet := by
  unfold tickTests
  simp

@[simp] theorem tick_frame (s : State) :
    (tick s).pending = s.pending ∧ (tick s).spt = s.spt ∧ (tick s).wpu.meters = s.wpu.meters ∧
    (tick s).dru.hinge = s.dru.hinge ∧ (tick s).wpu.switches = s.wpu.switches ∧ (tick s).wpu.ledger = s.wpu.ledger ∧
    (tick s).wpu.settings = s.wpu.settings ∧ (tick s).wpu.inhibit = s.wpu.inhibit ∧ (tick s).wpu.fillRec = s.wpu.fillRec ∧
    (tick s).sfu.settings = s.sfu.settings ∧ (tick s).dsu.curve = s.dsu.curve ∧ (tick s).dsu.soil = s.dsu.soil ∧
    (tick s).dyc.settings = s.dyc.settings ∧ (tick s).cdu.traps = s.cdu.traps ∧ (tick s).cdu.mode = s.cdu.mode ∧
    (tick s).cdu.safeSet = s.cdu.safeSet ∧ (tick s).wsc.queue = s.wsc.queue ∧ (tick s).wsc.ctx = s.wsc.ctx ∧
    (tick s).wsc.wash = s.wsc.wash ∧ (tick s).hcu.temp = s.hcu.temp := by
  unfold tick
  (try dsimp only) <;> (try and_intros) <;> first
  | (simp; done)
  | (simp; rfl)
  | rfl
  | (repeat' split) <;> first | (simp; done) | (simp; rfl) | rfl | (simp_all [pair_parts]; done) | (simp_all [pair_parts]; rfl)

end Sys2Proof.Machine
end

