-- ==== Sys2Proof/Laws/FrameEvents.lean ====
section
/-! SUPPORT. What the operations of Machine/Events.lean leave unchanged: one law for each. -/

namespace Sys2Proof.Machine

@[simp] theorem takeFillPulse_frame (r : FillRecord) (compA compB : Bool) (s : State) :
    (takeFillPulse r compA compB s).pending = s.pending ∧ (takeFillPulse r compA compB s).uptimeMs = s.uptimeMs ∧
    (takeFillPulse r compA compB s).lkp.port = s.lkp.port ∧ (takeFillPulse r compA compB s).dru.hinge = s.dru.hinge ∧
    (takeFillPulse r compA compB s).wpu.settings = s.wpu.settings ∧
    (takeFillPulse r compA compB s).sfu.settings = s.sfu.settings ∧ (takeFillPulse r compA compB s).dsu.curve = s.dsu.curve ∧
    (takeFillPulse r compA compB s).dsu.soil = s.dsu.soil ∧ (takeFillPulse r compA compB s).dyc.settings = s.dyc.settings ∧
    (takeFillPulse r compA compB s).cdu.traps = s.cdu.traps ∧ (takeFillPulse r compA compB s).wsc.queue = s.wsc.queue ∧
    (takeFillPulse r compA compB s).hcu.temp = s.hcu.temp := by
  unfold takeFillPulse
  dsimp only
  (repeat' split) <;> simp

@[simp] theorem creditPulse_frame (compA compB : Bool) (s : State) :
    (creditPulse compA compB s).pending = s.pending ∧ (creditPulse compA compB s).uptimeMs = s.uptimeMs ∧
    (creditPulse compA compB s).lkp.port = s.lkp.port ∧ (creditPulse compA compB s).dru.hinge = s.dru.hinge ∧
    (creditPulse compA compB s).wpu.settings = s.wpu.settings ∧ (creditPulse compA compB s).sfu.settings = s.sfu.settings ∧
    (creditPulse compA compB s).dsu.curve = s.dsu.curve ∧ (creditPulse compA compB s).dsu.soil = s.dsu.soil ∧
    (creditPulse compA compB s).dyc.settings = s.dyc.settings ∧ (creditPulse compA compB s).cdu.traps = s.cdu.traps ∧
    (creditPulse compA compB s).wsc.queue = s.wsc.queue ∧ (creditPulse compA compB s).hcu.temp = s.hcu.temp := by
  unfold creditPulse
  (repeat' split) <;> simp

@[simp] theorem fillSlowDefault_frame (s : State) :
    (fillSlowDefault s).pending = s.pending ∧ (fillSlowDefault s).uptimeMs = s.uptimeMs ∧
    (fillSlowDefault s).wpu.meters = s.wpu.meters ∧ (fillSlowDefault s).lkp.port = s.lkp.port ∧
    (fillSlowDefault s).dru.hinge = s.dru.hinge ∧ (fillSlowDefault s).wpu.switches = s.wpu.switches ∧
    (fillSlowDefault s).wpu.settings = s.wpu.settings ∧ (fillSlowDefault s).sfu.settings = s.sfu.settings ∧
    (fillSlowDefault s).dsu.curve = s.dsu.curve ∧ (fillSlowDefault s).dsu.soil = s.dsu.soil ∧
    (fillSlowDefault s).dyc.settings = s.dyc.settings ∧ (fillSlowDefault s).cdu.traps = s.cdu.traps ∧
    (fillSlowDefault s).wsc.queue = s.wsc.queue ∧ (fillSlowDefault s).hcu.temp = s.hcu.temp := by
  unfold fillSlowDefault
  (repeat' split) <;> simp

@[simp] theorem expireFill_frame (s : State) :
    (expireFill s).pending = s.pending ∧ (expireFill s).uptimeMs = s.uptimeMs ∧ (expireFill s).wpu.meters = s.wpu.meters ∧
    (expireFill s).lkp.port = s.lkp.port ∧ (expireFill s).dru.hinge = s.dru.hinge ∧
    (expireFill s).wpu.switches = s.wpu.switches ∧ (expireFill s).wpu.settings = s.wpu.settings ∧
    (expireFill s).sfu.settings = s.sfu.settings ∧ (expireFill s).dsu.curve = s.dsu.curve ∧
    (expireFill s).dsu.soil = s.dsu.soil ∧ (expireFill s).dyc.settings = s.dyc.settings ∧
    (expireFill s).cdu.traps = s.cdu.traps ∧ (expireFill s).wsc.queue = s.wsc.queue ∧ (expireFill s).hcu.temp = s.hcu.temp := by
  unfold expireFill
  (try dsimp only) <;> (try and_intros) <;> first
  | (simp; done)
  | (simp; rfl)
  | rfl
  | (repeat' split) <;> first | (simp; done) | (simp; rfl) | rfl | (simp_all [pair_parts]; done) | (simp_all [pair_parts]; rfl)

@[simp] theorem settleWater_frame (closed : Bool) (s : State) :
    (settleWater closed s).pending = s.pending ∧ (settleWater closed s).uptimeMs = s.uptimeMs ∧
    (settleWater closed s).lkp = s.lkp ∧ (settleWater closed s).sfu = s.sfu ∧ (settleWater closed s).spt = s.spt ∧
    (settleWater closed s).dsu = s.dsu ∧ (settleWater closed s).wsc = s.wsc ∧ (settleWater closed s).dru = s.dru ∧
    (settleWater closed s).dyc = s.dyc ∧ (settleWater closed s).wpu.meters = s.wpu.meters ∧
    (settleWater closed s).wpu.ledger = s.wpu.ledger ∧ (settleWater closed s).wpu.settings = s.wpu.settings ∧
    (settleWater closed s).wpu.inhibit = s.wpu.inhibit ∧ (settleWater closed s).wpu.fillRec = s.wpu.fillRec ∧
    (settleWater closed s).cdu.traps = s.cdu.traps ∧ (settleWater closed s).cdu.mode = s.cdu.mode ∧
    (settleWater closed s).cdu.safeSet = s.cdu.safeSet ∧ (settleWater closed s).hcu.temp = s.hcu.temp := by
  unfold settleWater
  (try dsimp only) <;> (try and_intros) <;> first
  | (simp; done)
  | (simp; rfl)
  | rfl
  | (repeat' split) <;> first | (simp; done) | (simp; rfl) | rfl | (simp_all [pair_parts]; done) | (simp_all [pair_parts]; rfl)

@[simp] theorem pumpFault_frame (a : Agent) (s : State) :
    (pumpFault a s).pending = s.pending ∧ (pumpFault a s).uptimeMs = s.uptimeMs ∧ (pumpFault a s).wpu.meters = s.wpu.meters ∧
    (pumpFault a s).lkp.port = s.lkp.port ∧ (pumpFault a s).dru.hinge = s.dru.hinge ∧
    (pumpFault a s).wpu.switches = s.wpu.switches ∧ (pumpFault a s).wpu.ledger = s.wpu.ledger ∧
    (pumpFault a s).wpu.settings = s.wpu.settings ∧ (pumpFault a s).sfu.settings = s.sfu.settings ∧
    (pumpFault a s).dsu.curve = s.dsu.curve ∧ (pumpFault a s).dsu.soil = s.dsu.soil ∧
    (pumpFault a s).dyc.settings = s.dyc.settings ∧ (pumpFault a s).cdu.traps = s.cdu.traps ∧
    (pumpFault a s).hcu.temp = s.hcu.temp := by
  unfold pumpFault
  dsimp only
  (repeat' split) <;> simp

@[simp] theorem missDose_frame (a : Agent) (s : State) :
    (missDose a s).pending = s.pending ∧ (missDose a s).uptimeMs = s.uptimeMs ∧ (missDose a s).wpu.meters = s.wpu.meters ∧
    (missDose a s).lkp.port = s.lkp.port ∧ (missDose a s).dru.hinge = s.dru.hinge ∧
    (missDose a s).wpu.switches = s.wpu.switches ∧ (missDose a s).wpu.ledger = s.wpu.ledger ∧
    (missDose a s).wpu.settings = s.wpu.settings ∧ (missDose a s).sfu.settings = s.sfu.settings ∧
    (missDose a s).dsu.curve = s.dsu.curve ∧ (missDose a s).dsu.soil = s.dsu.soil ∧
    (missDose a s).dyc.settings = s.dyc.settings ∧ (missDose a s).cdu.traps = s.cdu.traps ∧
    (missDose a s).hcu.temp = s.hcu.temp := by
  unfold missDose
  dsimp only
  (repeat' split) <;> simp

@[simp] theorem closeWindow_frame (f : Flight) (s : State) :
    (closeWindow f s).pending = s.pending ∧ (closeWindow f s).uptimeMs = s.uptimeMs ∧
    (closeWindow f s).wpu.meters = s.wpu.meters ∧ (closeWindow f s).lkp.port = s.lkp.port ∧
    (closeWindow f s).dru.hinge = s.dru.hinge ∧ (closeWindow f s).wpu.switches = s.wpu.switches ∧
    (closeWindow f s).wpu.ledger = s.wpu.ledger ∧ (closeWindow f s).wpu.settings = s.wpu.settings ∧
    (closeWindow f s).sfu.settings = s.sfu.settings ∧ (closeWindow f s).dsu.curve = s.dsu.curve ∧
    (closeWindow f s).dsu.soil = s.dsu.soil ∧ (closeWindow f s).dyc.settings = s.dyc.settings ∧
    (closeWindow f s).cdu.traps = s.cdu.traps ∧ (closeWindow f s).hcu.temp = s.hcu.temp := by
  unfold closeWindow
  (repeat' split) <;> simp

@[simp] theorem expireHeat_frame (s : State) :
    (expireHeat s).pending = s.pending ∧ (expireHeat s).uptimeMs = s.uptimeMs ∧ (expireHeat s).wpu.meters = s.wpu.meters ∧
    (expireHeat s).lkp.port = s.lkp.port ∧ (expireHeat s).dru.hinge = s.dru.hinge ∧
    (expireHeat s).wpu.switches = s.wpu.switches ∧ (expireHeat s).wpu.ledger = s.wpu.ledger ∧
    (expireHeat s).wpu.settings = s.wpu.settings ∧ (expireHeat s).wpu.fillRec = s.wpu.fillRec ∧
    (expireHeat s).sfu.settings = s.sfu.settings ∧ (expireHeat s).dsu.curve = s.dsu.curve ∧
    (expireHeat s).dsu.soil = s.dsu.soil ∧ (expireHeat s).dyc.settings = s.dyc.settings ∧
    (expireHeat s).cdu.traps = s.cdu.traps ∧ (expireHeat s).wsc.queue = s.wsc.queue ∧ (expireHeat s).hcu.temp = s.hcu.temp := by
  unfold expireHeat
  dsimp only
  (repeat' split) <;> simp

@[simp] theorem moveCam_frame (m : DiverterMove) (reading : Cam) (s : State) :
    (moveCam m reading s).pending = s.pending ∧ (moveCam m reading s).uptimeMs = s.uptimeMs ∧
    (moveCam m reading s).wpu.meters = s.wpu.meters ∧ (moveCam m reading s).lkp.port = s.lkp.port ∧
    (moveCam m reading s).dru.hinge = s.dru.hinge ∧ (moveCam m reading s).wpu.switches = s.wpu.switches ∧
    (moveCam m reading s).wpu.ledger = s.wpu.ledger ∧ (moveCam m reading s).wpu.settings = s.wpu.settings ∧
    (moveCam m reading s).sfu.settings = s.sfu.settings ∧ (moveCam m reading s).dsu.curve = s.dsu.curve ∧
    (moveCam m reading s).dsu.soil = s.dsu.soil ∧ (moveCam m reading s).dyc.settings = s.dyc.settings ∧
    (moveCam m reading s).cdu.traps = s.cdu.traps ∧ (moveCam m reading s).wsc.queue = s.wsc.queue ∧
    (moveCam m reading s).wsc.ctx = s.wsc.ctx ∧ (moveCam m reading s).wsc.active = s.wsc.active ∧
    (moveCam m reading s).hcu.temp = s.hcu.temp := by
  unfold moveCam
  (repeat' split) <;> simp

@[simp] theorem expireMove_frame (m : DiverterMove) (s : State) :
    (expireMove m s).pending = s.pending ∧ (expireMove m s).uptimeMs = s.uptimeMs ∧ (expireMove m s).wpu.meters = s.wpu.meters ∧
    (expireMove m s).lkp.port = s.lkp.port ∧ (expireMove m s).dru.hinge = s.dru.hinge ∧
    (expireMove m s).wpu.switches = s.wpu.switches ∧ (expireMove m s).wpu.ledger = s.wpu.ledger ∧
    (expireMove m s).wpu.settings = s.wpu.settings ∧ (expireMove m s).wpu.fillRec = s.wpu.fillRec ∧
    (expireMove m s).sfu.settings = s.sfu.settings ∧ (expireMove m s).dsu.curve = s.dsu.curve ∧
    (expireMove m s).dsu.soil = s.dsu.soil ∧ (expireMove m s).dyc.settings = s.dyc.settings ∧
    (expireMove m s).cdu.traps = s.cdu.traps ∧ (expireMove m s).wsc.queue = s.wsc.queue ∧ (expireMove m s).wsc.ctx = s.wsc.ctx ∧
    (expireMove m s).wsc.active = s.wsc.active ∧ (expireMove m s).hcu.temp = s.hcu.temp := by
  unfold expireMove
  dsimp only
  (repeat' split) <;> simp

@[simp] theorem moveTimesOut_frame (m : DiverterMove) (reading : Cam) (s : State) :
    (moveTimesOut m reading s).pending = s.pending ∧ (moveTimesOut m reading s).uptimeMs = s.uptimeMs ∧
    (moveTimesOut m reading s).wpu.meters = s.wpu.meters ∧ (moveTimesOut m reading s).lkp.port = s.lkp.port ∧
    (moveTimesOut m reading s).dru.hinge = s.dru.hinge ∧ (moveTimesOut m reading s).wpu.switches = s.wpu.switches ∧
    (moveTimesOut m reading s).wpu.ledger = s.wpu.ledger ∧ (moveTimesOut m reading s).wpu.settings = s.wpu.settings ∧
    (moveTimesOut m reading s).sfu.settings = s.sfu.settings ∧ (moveTimesOut m reading s).dsu.curve = s.dsu.curve ∧
    (moveTimesOut m reading s).dsu.soil = s.dsu.soil ∧ (moveTimesOut m reading s).dyc.settings = s.dyc.settings ∧
    (moveTimesOut m reading s).cdu.traps = s.cdu.traps ∧ (moveTimesOut m reading s).wsc.queue = s.wsc.queue ∧
    (moveTimesOut m reading s).wsc.ctx = s.wsc.ctx ∧ (moveTimesOut m reading s).wsc.active = s.wsc.active ∧
    (moveTimesOut m reading s).hcu.temp = s.hcu.temp := by
  unfold moveTimesOut
  (repeat' split) <;> simp

@[simp] theorem expireGap_frame (z : Zone) (s : State) :
    (expireGap z s).pending = s.pending ∧ (expireGap z s).uptimeMs = s.uptimeMs ∧ (expireGap z s).wpu.meters = s.wpu.meters ∧
    (expireGap z s).lkp.port = s.lkp.port ∧ (expireGap z s).dru.hinge = s.dru.hinge ∧
    (expireGap z s).wpu.switches = s.wpu.switches ∧ (expireGap z s).wpu.ledger = s.wpu.ledger ∧
    (expireGap z s).wpu.settings = s.wpu.settings ∧ (expireGap z s).wpu.fillRec = s.wpu.fillRec ∧
    (expireGap z s).sfu.settings = s.sfu.settings ∧ (expireGap z s).dsu.curve = s.dsu.curve ∧
    (expireGap z s).dsu.soil = s.dsu.soil ∧ (expireGap z s).dyc.settings = s.dyc.settings ∧
    (expireGap z s).cdu.traps = s.cdu.traps ∧ (expireGap z s).wsc.queue = s.wsc.queue ∧ (expireGap z s).wsc.ctx = s.wsc.ctx ∧
    (expireGap z s).wsc.active = s.wsc.active ∧ (expireGap z s).hcu.temp = s.hcu.temp := by
  unfold expireGap
  dsimp only
  (repeat' split) <;> simp

@[simp] theorem takeTurbidity_frame (readings : List Nat) (s : State) :
    (takeTurbidity readings s).pending = s.pending ∧ (takeTurbidity readings s).uptimeMs = s.uptimeMs ∧
    (takeTurbidity readings s).wpu.meters = s.wpu.meters ∧ (takeTurbidity readings s).lkp.port = s.lkp.port ∧
    (takeTurbidity readings s).dru.hinge = s.dru.hinge ∧ (takeTurbidity readings s).wpu.switches = s.wpu.switches ∧
    (takeTurbidity readings s).wpu.ledger = s.wpu.ledger ∧ (takeTurbidity readings s).wpu.settings = s.wpu.settings ∧
    (takeTurbidity readings s).sfu.settings = s.sfu.settings ∧ (takeTurbidity readings s).dsu.curve = s.dsu.curve ∧
    (takeTurbidity readings s).dsu.soil = s.dsu.soil ∧ (takeTurbidity readings s).dyc.settings = s.dyc.settings ∧
    (takeTurbidity readings s).cdu.traps = s.cdu.traps ∧ (takeTurbidity readings s).hcu.temp = s.hcu.temp := by
  unfold takeTurbidity
  (repeat' split) <;> simp

@[simp] theorem reportHinge_frame (before : State) (s : State) :
    (reportHinge before s).pending = s.pending ∧ (reportHinge before s).uptimeMs = s.uptimeMs ∧
    (reportHinge before s).wpu.meters = s.wpu.meters ∧ (reportHinge before s).lkp.port = s.lkp.port ∧
    (reportHinge before s).dru.hinge = s.dru.hinge ∧ (reportHinge before s).wpu.switches = s.wpu.switches ∧
    (reportHinge before s).wpu.ledger = s.wpu.ledger ∧ (reportHinge before s).wpu.settings = s.wpu.settings ∧
    (reportHinge before s).sfu.settings = s.sfu.settings ∧ (reportHinge before s).dsu.curve = s.dsu.curve ∧
    (reportHinge before s).dsu.soil = s.dsu.soil ∧ (reportHinge before s).dyc.settings = s.dyc.settings ∧
    (reportHinge before s).cdu.traps = s.cdu.traps ∧ (reportHinge before s).wsc.ctx = s.wsc.ctx ∧
    (reportHinge before s).hcu.temp = s.hcu.temp := by
  unfold reportHinge
  (repeat' split) <;> simp

@[simp] theorem finishMove_frame (st : OpenerState) (o : MoveOutcome) (s : State) :
    (finishMove st o s).pending = s.pending ∧ (finishMove st o s).uptimeMs = s.uptimeMs ∧
    (finishMove st o s).wpu.meters = s.wpu.meters ∧ (finishMove st o s).lkp.port = s.lkp.port ∧
    (finishMove st o s).dru.hinge = s.dru.hinge ∧ (finishMove st o s).wpu.switches = s.wpu.switches ∧
    (finishMove st o s).wpu.ledger = s.wpu.ledger ∧ (finishMove st o s).wpu.settings = s.wpu.settings ∧
    (finishMove st o s).sfu.settings = s.sfu.settings ∧ (finishMove st o s).dsu.curve = s.dsu.curve ∧
    (finishMove st o s).dsu.soil = s.dsu.soil ∧ (finishMove st o s).dyc.settings = s.dyc.settings ∧
    (finishMove st o s).cdu.traps = s.cdu.traps ∧ (finishMove st o s).wsc.ctx = s.wsc.ctx ∧
    (finishMove st o s).hcu.temp = s.hcu.temp := by
  unfold finishMove
  (repeat' split) <;> simp

@[simp] theorem latchFreed_frame (s : State) :
    (latchFreed s).pending = s.pending ∧ (latchFreed s).uptimeMs = s.uptimeMs ∧ (latchFreed s).wpu.meters = s.wpu.meters ∧
    (latchFreed s).lkp.port = s.lkp.port ∧ (latchFreed s).dru.hinge = s.dru.hinge ∧
    (latchFreed s).wpu.switches = s.wpu.switches ∧ (latchFreed s).wpu.ledger = s.wpu.ledger ∧
    (latchFreed s).wpu.settings = s.wpu.settings ∧ (latchFreed s).sfu.settings = s.sfu.settings ∧
    (latchFreed s).dsu.curve = s.dsu.curve ∧ (latchFreed s).dsu.soil = s.dsu.soil ∧
    (latchFreed s).dyc.settings = s.dyc.settings ∧ (latchFreed s).cdu.traps = s.cdu.traps ∧ (latchFreed s).wsc.ctx = s.wsc.ctx ∧
    (latchFreed s).hcu.temp = s.hcu.temp := by
  unfold latchFreed
  dsimp only
  (repeat' split) <;> simp

@[simp] theorem settleLatch_frame (engaged : Bool) (s : State) :
    (settleLatch engaged s).pending = s.pending ∧ (settleLatch engaged s).uptimeMs = s.uptimeMs ∧
    (settleLatch engaged s).wpu.meters = s.wpu.meters ∧ (settleLatch engaged s).lkp.port = s.lkp.port ∧
    (settleLatch engaged s).wpu.switches = s.wpu.switches ∧ (settleLatch engaged s).wpu.ledger = s.wpu.ledger ∧
    (settleLatch engaged s).wpu.settings = s.wpu.settings ∧ (settleLatch engaged s).sfu.settings = s.sfu.settings ∧
    (settleLatch engaged s).dsu.curve = s.dsu.curve ∧ (settleLatch engaged s).dsu.soil = s.dsu.soil ∧
    (settleLatch engaged s).dyc.settings = s.dyc.settings ∧ (settleLatch engaged s).cdu.traps = s.cdu.traps ∧
    (settleLatch engaged s).wsc.ctx = s.wsc.ctx ∧ (settleLatch engaged s).hcu.temp = s.hcu.temp := by
  unfold settleLatch
  (repeat' split) <;> simp

@[simp] theorem writeEndSwitch_frame (sw : EndSwitch) (active : Bool) (s : State) :
    (writeEndSwitch sw active s).pending = s.pending ∧ (writeEndSwitch sw active s).uptimeMs = s.uptimeMs ∧
    (writeEndSwitch sw active s).lkp = s.lkp ∧ (writeEndSwitch sw active s).wpu = s.wpu ∧
    (writeEndSwitch sw active s).sfu = s.sfu ∧ (writeEndSwitch sw active s).spt = s.spt ∧
    (writeEndSwitch sw active s).dsu = s.dsu ∧ (writeEndSwitch sw active s).wsc = s.wsc ∧
    (writeEndSwitch sw active s).hcu = s.hcu ∧ (writeEndSwitch sw active s).dyc = s.dyc ∧
    (writeEndSwitch sw active s).cdu = s.cdu := by
  unfold writeEndSwitch
  (repeat' split) <;> simp

@[simp] theorem endSwitchActive_frame (sw : EndSwitch) (s : State) :
    (endSwitchActive sw s).pending = s.pending ∧ (endSwitchActive sw s).uptimeMs = s.uptimeMs ∧
    (endSwitchActive sw s).wpu.meters = s.wpu.meters ∧ (endSwitchActive sw s).lkp.port = s.lkp.port ∧
    (endSwitchActive sw s).dru.hinge = s.dru.hinge ∧ (endSwitchActive sw s).wpu.switches = s.wpu.switches ∧
    (endSwitchActive sw s).wpu.ledger = s.wpu.ledger ∧ (endSwitchActive sw s).wpu.settings = s.wpu.settings ∧
    (endSwitchActive sw s).sfu.settings = s.sfu.settings ∧ (endSwitchActive sw s).dsu.curve = s.dsu.curve ∧
    (endSwitchActive sw s).dsu.soil = s.dsu.soil ∧ (endSwitchActive sw s).dyc.settings = s.dyc.settings ∧
    (endSwitchActive sw s).cdu.traps = s.cdu.traps ∧ (endSwitchActive sw s).wsc.ctx = s.wsc.ctx ∧
    (endSwitchActive sw s).hcu.temp = s.hcu.temp := by
  unfold endSwitchActive
  (repeat' split) <;> simp

end Sys2Proof.Machine
end

