-- ==== Sys2Proof/Laws/Words.lean ====
section
/-! SUPPORT. What the shared operations write, said once in the words of the statements: attention sources, recorded conditions,
columns, supply entries, service tests, the service of a request, and the fields of a reply. -/

namespace Sys2Proof.Machine

/-! ## Numbers of the sources, actuators and conditions -/

theorem source_idx_inj {x y : Source} : x.idx = y.idx ↔ x = y := by cases x <;> cases y <;> decide

theorem actuator_idx_inj {x y : Actuator} : x.idx = y.idx ↔ x = y := by cases x <;> cases y <;> decide

theorem condition_idx_inj {x y : Condition} : x.idx = y.idx ↔ x = y := by cases x <;> cases y <;> decide

theorem source_idx_val_ne {x y : Source} (h : y ≠ x) : x.idx.val ≠ y.idx.val := fun e => h (source_idx_inj.1 (Fin.ext e)).symm

theorem actuator_idx_val_ne {x y : Actuator} (h : y ≠ x) : x.idx.val ≠ y.idx.val :=
  fun e => h (actuator_idx_inj.1 (Fin.ext e)).symm

theorem condition_idx_val_ne {x y : Condition} (h : y ≠ x) : x.idx.val ≠ y.idx.val :=
  fun e => h (condition_idx_inj.1 (Fin.ext e)).symm

@[simp] theorem column_other_ne (c : Column) : c.other ≠ c := by cases c <;> decide

@[simp] theorem column_other_other (c : Column) : c.other.other = c := by cases c <;> rfl

@[simp] theorem column_of_code (c : Column) : Column.ofCode c.code.toNat = some c := by cases c <;> rfl

@[simp] theorem entry_of_code (e : Entry) : Entry.ofCode e.code.toNat = some e := by cases e <;> rfl

@[simp] theorem agent_of_code (a : Agent) : Agent.ofCode a.code.toNat = some a := by cases a <;> rfl

@[simp] theorem actuator_of_code (a : Actuator) : Actuator.ofCode a.idx.val = some a := by cases a <;> rfl

@[simp] theorem source_of_code (x : Source) : Source.ofCode x.idx.val = some x := by cases x <;> rfl

/-! ## Attention (R195) -/

theorem setAttention_told (src : Source) (sm : Summary) (s : State) : (setAttention src sm s).told src sm := by
  simp [setAttention, State.told]

theorem setAttention_source_ne {src x : Source} (sm : Summary) (s : State) (h : x ≠ src) :
    (setAttention src sm s).lkp.sources[x.idx] = s.lkp.sources[x.idx] := by
  simp [setAttention, Vector.getElem_set_ne, source_idx_val_ne h]

theorem setAttention_sourcesKeptBut (src : Source) (sm : Summary) (s : State) :
    s.sourcesKeptBut (setAttention src sm s) src := fun _ h => setAttention_source_ne sm s h

/-! ## Conditions (R175) -/

/-- A set with one condition added holds that condition and those it held. -/
theorem hasCondition_or (w : CondSet) (c d : Condition) :
    hasCondition (w ||| c.mask) d ↔ hasCondition w d ∨ d = c := by
  have split : (w ||| c.mask) &&& d.mask = (w &&& d.mask) ||| (c.mask &&& d.mask) := by
    ext i
    simp [Bool.and_or_distrib_right]
  have own : d.mask ≠ 0 := by cases d <;> decide
  have apart : d ≠ c → c.mask &&& d.mask = 0 := by cases c <;> cases d <;> decide
  by_cases h : d = c
  · subst h
    have : (w ||| d.mask) &&& d.mask = d.mask := by
      ext i
      simp
      intro hi
      exact Or.inr hi
    exact ⟨fun _ => Or.inr rfl, fun _ => by rw [hasCondition, this]; exact own⟩
  · simp only [hasCondition, split, apart h, h, or_false]
    simp

theorem recordCondition_recorded (c : Condition) (s : State) : s.recorded (recordCondition c s) c := by
  refine ⟨fun d => hasCondition_or _ c d, fun d => hasCondition_or _ c d, fun d => ?_, ?_⟩
  · by_cases h : d = c
    · subst h
      simp [recordCondition, setAttention, satSucc]
    · simp [recordCondition, setAttention, h, Vector.getElem_set_ne, condition_idx_val_ne h]
  · simp [recordCondition, setAttention]

/-! ## Columns (R23) -/

@[simp] theorem setAttention_col (src : Source) (sm : Summary) (s : State) (c : Column) :
    (setAttention src sm s).col c = s.col c := by cases c <;> rfl

@[simp] theorem writeColumn_col (c : Column) (r : ColumnRecord) (s : State) : (writeColumn c r s).col c = r := by
  cases c <;> rfl

theorem writeColumn_col_ne {c d : Column} (r : ColumnRecord) (s : State) (h : d ≠ c) : (writeColumn c r s).col d = s.col d := by
  cases c <;> cases d <;> first | rfl | exact absurd rfl h

@[simp] theorem putColumn_col (c : Column) (r : ColumnRecord) (s : State) : (putColumn c r s).col c = r := by
  unfold putColumn
  split <;> simp

theorem putColumn_col_ne {c d : Column} (r : ColumnRecord) (s : State) (h : d ≠ c) : (putColumn c r s).col d = s.col d := by
  unfold putColumn
  split <;> simp [writeColumn_col_ne r s h]

/-! ## Supply entries (R63) -/

@[simp] theorem setAttention_entry (src : Source) (sm : Summary) (s : State) (e : Entry) :
    (setAttention src sm s).entry e = s.entry e := by cases e <;> rfl

@[simp] theorem writeEntry_entry (e : Entry) (r : SupplyEntry) (s : State) : (writeEntry e r s).entry e = r := by
  cases e <;> rfl

theorem writeEntry_entry_ne {e x : Entry} (r : SupplyEntry) (s : State) (h : x ≠ e) : (writeEntry e r s).entry x = s.entry x := by
  cases e <;> cases x <;> first | rfl | exact absurd rfl h

@[simp] theorem putEntry_entry (e : Entry) (r : SupplyEntry) (s : State) : (putEntry e r s).entry e = r := by
  unfold putEntry
  split <;> simp

theorem putEntry_entry_ne {e x : Entry} (r : SupplyEntry) (s : State) (h : x ≠ e) : (putEntry e r s).entry x = s.entry x := by
  unfold putEntry
  split <;> simp [writeEntry_entry_ne r s h]

theorem putEntry_told {e : Entry} {r : SupplyEntry} {s : State} (h : r.state ≠ (s.entry e).state) :
    (putEntry e r s).told .supply (.supply e r.state) := by
  unfold putEntry
  rw [if_neg h]
  exact setAttention_told ..

theorem putEntry_lkp {e : Entry} {r : SupplyEntry} {s : State} (h : r.state = (s.entry e).state) :
    (putEntry e r s).lkp = s.lkp := by
  unfold putEntry
  rw [if_pos h]
  simp

theorem putEntry_sourcesKeptBut (e : Entry) (r : SupplyEntry) (s : State) : s.sourcesKeptBut (putEntry e r s) .supply := by
  intro x h
  by_cases k : r.state = (s.entry e).state
  · simp only [putEntry_lkp k]
  · unfold putEntry
    rw [if_neg k, setAttention_source_ne _ _ h]
    simp

/-! ## Service tests (R188) -/

@[simp] theorem writeTest_testEntry (a : Actuator) (t : TestEntry) (s : State) : (writeTest a t s).testEntry a = t := by
  simp [writeTest, State.testEntry]

theorem writeTest_testEntry_ne {a b : Actuator} (t : TestEntry) (s : State) (h : b ≠ a) :
    (writeTest a t s).testEntry b = s.testEntry b := by
  simp [writeTest, State.testEntry, Vector.getElem_set_ne, actuator_idx_val_ne h]

/-! ## The service of a request (R192 to R194) -/

theorem superviseFrame_eq (s : State) : superviseFrame s = { s with lkp := s.lkp.heard } := rfl

/-- A request that its owner only answers. -/
theorem serveRow_answer (kind : Byte) (h : State → State × Answer) (s : State) (a : Answer)
    (he : h (superviseFrame s) = (superviseFrame s, a)) : serveRow kind h s = s.onlyAnswered kind a := by
  simp only [serveRow, serve, he]
  rfl

/-- Clamping, in the words of the statements. -/
theorem clampedTo_clamp {lo hi : Nat} (h : lo ≤ hi) (n : Nat) : clampedTo lo hi n (clamp lo hi n) := by
  unfold clamp
  refine ⟨fun _ => ?_, fun _ => ?_, fun _ _ => ?_⟩ <;> omega

/-! ## The step -/

/-- Every command answers a next state: the part has no fault, and no command is refused. -/
theorem exec_next (i : Instr) (s : State) : ∃ t, exec i s = .next t := by
  cases i <;> exact ⟨_, rfl⟩

/-- A next state is a millisecond's, or the command's at the front of the queue. -/
theorem step_cases {s t : State} (h : step s = .next t) :
    (s.pending = [] ∧ t = tick s) ∨
    ∃ c rest, s.pending = c :: rest ∧ exec c { s with pending := rest } = .next t := by
  unfold step at h
  split at h
  · exact Or.inr ⟨_, _, ‹_›, h⟩
  · exact Or.inl ⟨‹_›, (Host.Outcome.next.inj h).symm⟩

/-! ## The end of a reply (R193, 11.8) -/

/-- The port is free exactly while no frame is in service and no reply is being sent. -/
@[simp] theorem LinkPort.busy_eq_false (l : LinkPort) : l.busy = false ↔ l.inService = none ∧ l.sending = none := by
  simp [LinkPort.busy]

/-- After the reply of a frame in service, a full overrun slot is answered first, and the waiting frame stays. -/
theorem nextFrame_overrun {s : State} {served kind : Byte} (h : s.lkp.inService = some served) (ho : s.lkp.overrun = some kind) :
    nextFrame s =
      { s with lkp := { s.lkp with inService := none, sending := some ⟨kind, .refused .overrun⟩, overrun := none } } := by
  simp [nextFrame, h, ho]

/-- With the slot empty, or at the end of an OVERRUN refusal, the waiting frame is served. -/
theorem nextFrame_waiting {s : State} (h : s.lkp.inService = none ∨ s.lkp.overrun = none) : nextFrame s = serveWaiting s := by
  unfold nextFrame
  split
  · simp_all
  · rfl

/-! ## The fields of a reply (11.1, R200, R202) -/

/-- A field behind a part of the payload is the same field of what follows that part. -/
theorem fieldAt_skip (l r : List Byte) {offset : Nat} (n : Nat) (h : l.length ≤ offset) :
    fieldAt (l ++ r) offset n = fieldAt r (offset - l.length) n := by
  simp [fieldAt, List.drop_append, List.drop_eq_nil_of_le h]

/-- A one-byte field shows its figure. -/
theorem fieldAt_be1 (r : List Byte) {n : Nat} (h : n ≤ 255) : fieldAt (be1 n ++ r) 0 1 = n := by
  have h1 : n < 256 := by omega
  simp [fieldAt, be1, h1]

/-- The two bytes of a word are its figure. -/
theorem fieldAt_word16 (r : List Byte) (w : BitVec 16) : fieldAt (word16 w ++ r) 0 2 = w.toNat := by
  have := w.isLt
  simp [fieldAt, word16, Nat.shiftRight_eq_div_pow]
  omega

/-- A two-byte field shows its figure. -/
theorem fieldAt_be2 (r : List Byte) {n : Nat} (h : n ≤ 65535) : fieldAt (be2 n ++ r) 0 2 = n := by
  have h1 : n < 65536 := by omega
  simp [be2, fieldAt_word16, h1]

/-- A four-byte field shows its figure. -/
theorem fieldAt_be4 (r : List Byte) {n : Nat} (h : n < 4294967296) : fieldAt (be4 n ++ r) 0 4 = n := by
  simp [fieldAt, be4, word32, h, Nat.shiftRight_eq_div_pow]
  omega

/-- The six bytes of a counter are its figure. -/
theorem fieldAt_word48 (r : List Byte) (w : Pulses) : fieldAt (word48 w ++ r) 0 6 = w.toNat := by
  have := w.isLt
  simp [fieldAt, word48, Nat.shiftRight_eq_div_pow]
  omega

/-- A signed field shows its figure. -/
theorem signedAt_be2s (r : List Byte) {i : Int} (h : -32768 ≤ i) (h1 : i ≤ 32767) : signedAt (be2s i ++ r) 0 = i := by
  have h2 : -32768 ≤ i ∧ i < 32768 := by omega
  simp only [signedAt, be2s, h2, and_self, if_true, fieldAt_word16, BitVec.ofNat_toNat, BitVec.setWidth_eq, BitVec.toInt_ofInt]
  exact Int.bmod_eq_of_le (by omega) (by omega)

end Sys2Proof.Machine
end

