-- ==== Sys2Proof/Tests/Slice0.lean ====
section
/-! SUPPORT. The model's own tests: what is ill-formed is refused, the manual's worked figures, and for every statement with
hypotheses a concrete state and operands that meet them. Each expected figure is the manual's, not the model's. -/

namespace Sys2Proof.Tests

open Sys2Proof.Machine

set_option maxRecDepth 20000

/-! ## Small states to test with -/

/-- The machine at rest. -/
def atRest : State := State.reset

/-- A main wash of 3,000 mL at 55.0 °C, drained at its end. -/
def mainPhase : PhaseRecord := ⟨7, .main, 3000, 550, 600, some 1800, 7, 30, 2, none, none, none, false, true, false, false, none⟩

/-- A drain. -/
def drainPhase : PhaseRecord := ⟨8, .drain, 0, 0, 0, none, 0, 0, 0, none, none, none, false, false, false, false, none⟩

/-- A drying with the door shut. -/
def dryPhase : PhaseRecord := { drainPhase with id := 9, kind := .dry }

/-- The main wash as its bytes carry it. -/
def rawMain : RawPhase := ⟨7, 1, 3000, 550, 600, 1800, 7, 30, 2, 0, 0, 0, 2, 1, 0⟩

/-- A phase in a stage. -/
def inStage (st : Stage) : ActivePhase := ⟨mainPhase, st, 600, 0, 550, false, false, false, false, false⟩

/-- A running program. -/
def inRun (a : ActivePhase) : State :=
  { atRest with cdu.mode := .run, lkp.supervision := some 0, wsc := ⟨[], some a, .running, some ⟨none, false, 0⟩, none, false⟩ }

/-- A program held by PAUSE. -/
def inHold (a : ActivePhase) : State := { inRun a with wsc.wash := .held, wsc.cause := some .hostPause }

/-- The machine in a mode. -/
def inMode (m : Mode) : State := { atRest with cdu.mode := m }

/-- SAFE after a lost link. -/
def inSafe : State := { inMode .safe with wpu.inhibit := true, cdu.safeSet := [.linkLost] }

/-- SERVICE with tests running. -/
def testing (l : List Actuator) : State :=
  l.foldl (fun s a => writeTest a ⟨true, 10, 0, 0, 0, none, none, none, none⟩ s)
    { inMode .service with lkp.supervision := some 0, wpu.waterPresent := true }

/-- SERVICE with tests that have run their 10 s. -/
def ranOut (l : List Actuator) : State :=
  l.foldl (fun s a => writeTest a ⟨true, 10, 10000, 0, 0, none, none, none, none⟩ s) (testing [])

/-- An open fill record of 1,500 pulses. -/
def fillOf (pulses hRaw : Nat) : FillRecord := ⟨7, 3000, 1500, pulses, pulses, 0, 0, hRaw, 40, 500, 4000, 1, 0, none⟩

/-- A closed fill record. -/
def closedFill : FillRecord := { fillOf 1500 0 with closed := some ⟨3000, 0, .complete⟩ }

/-- A fill that holds the grant. -/
def filling (r : FillRecord) (b : Blend) : State :=
  { inRun (inStage .fill) with wpu.grant := some .fill, wpu.valveOpen := true, wpu.fillRec := some r, sfu.blend := some b }

/-- FILL is latched, a frame waits behind PAUSE's reply, and a flow pulse is at the front of the queue. -/
def attended : State :=
  let s := setAttention .fill (.fill 7 .complete) atRest
  { s with
    pending := [.flowPulse false false], lkp.latch := some .fill, lkp.inService := some 0x23
    lkp.sending := some ⟨0x23, .ok .empty⟩, lkp.waiting := some .crcFailure }

/-- A fill without a column. -/
def bypassing : Blend := ⟨32, none, false, false⟩

/-- A fill with column A in service. -/
def blending : Blend := ⟨5, some .a, false, false⟩

/-- A fill at a window position, with column A in service and column B fresh. -/
def blendFill (pulses : Nat) : State :=
  { filling (fillOf pulses 200) blending with sfu.colA.state := .inService, sfu.settings.automatic := false }

/-- A run record in a stage, one pulse before its target and with the slow rinse's time gone by. -/
def runIn (st : RunStage) : RunRecord :=
  ⟨.a, st, false, 300, 240, 1500, .anytime, some 500, some 150, some 149, 240000, none, none, false, none⟩

/-- A run that holds the grant. -/
def regenerating (st : RunStage) : State :=
  { atRest with
    wpu.grant := some .regen, wpu.valveOpen := true, sfu.run := some (runIn st), sfu.list := [⟨.a, false⟩]
    sfu.colA.state := .regenerating }

/-- A detergent dose of 52 strokes. -/
def dose (a : Agent) (st : DoseState) (done misses : Nat) : DoseRecord :=
  ⟨a, 7, 300, 3000, 0, 4000, 192, 200, 256, 176, 5, 52, 52, done, misses, st, false⟩

/-- A front record with a stroke in flight, and one behind it. -/
def stroking (done misses : Nat) : State :=
  { inRun (inStage .hold) with
    dsu.live := [dose .detergent .stroking done misses, dose .additive .waiting 0 0]
    dsu.flight := some ⟨.detergent, .record, false⟩ }

/-- A drying run in a state. -/
def dryRun (st : DryState) : DryRun :=
  ⟨.open, st, 0, 1800, false, 0, 0, none, false, false, none, none, false, true, Config.dryDefaults, none⟩

/-- The machine with a drying run. -/
def drying (r : DryRun) : State := { atRest with dyc.run := some r }

/-- The pump running for a wash with the lower zone fed and its arm watched. -/
def washing (st : Stage) : State :=
  { inRun (inStage st) with
    wpu.waterPresent := true, hcu.demand := some 2, hcu.pumpRuns := true, hcu.mask := 7, hcu.period := 30, hcu.cam := .at .lower
    hcu.zone := some .lower, hcu.watch := .watching 0, hcu.heat := some ⟨.heat, 550, false, none⟩ }

/-- A move of the rod by an issuer. -/
def moving (o : OpenerState) (p : MovePhase) (i : Issuer) : State :=
  { atRest with dru.opener := o, dru.phase := some p, dru.issuer := i, dru.endRetracted := false, dru.commanded := .extend }

/-! ## What is ill-formed is refused (WellFormed) -/

theorem test_requestField_too_wide : wellFormed (.setWater 65536 0 0 0 0) = false ∧
  wellFormed (.setWater 65535 0 0 0 255) = true := by
  decide

theorem test_column_figure_too_wide : wellFormed (.setColumn 0 4294967296 0 0) = false := by decide

theorem test_curve_of_five_points : wellFormed (.loadCurve [(0, 64), (1, 64), (2, 64), (3, 64), (4, 64)]) = false := by decide

theorem test_soil_table_of_two_thresholds : wellFormed (.loadSoil [1, 2] [128, 128, 128, 128]) = false := by decide

theorem test_phase_field_too_wide : wellFormed (.queuePhase { rawMain with id := 256 }) = false := by decide

theorem test_temperature_too_wide : wellFormed (.temperatureSample 32768) = false ∧
  wellFormed (.temperatureSample (-32768)) = true := by
  decide

theorem test_cabinet_temperature_too_wide : wellFormed (.cabinetSample (-32769) 0) = false := by decide

theorem test_humidity_too_wide : wellFormed (.cabinetSample 0 256) = false := by decide

theorem test_turbidity_too_high : wellFormed (.turbidityReading 1024) = false ∧
  wellFormed (.turbidityReading 1023) = true := by decide

theorem test_first_scan_too_wide : wellFormed (.powerOnReset { Config.quietInputs with waterTemp := 32768 }) = false ∧
    wellFormed (.replySent { Config.quietInputs with cabinetHumidity := 256 }) = false := by decide

/-! ## The manual's worked figures -/

/-- The next state of a command. -/
def after (i : Instr) (s : State) : State :=
  match exec i s with
  | .next t => t
  | .refused _ => s

/-- 11.1: the frame of GET-STATUS, with its CRC. -/
theorem test_frame_of_get_status : frameBytes 0x40 [] = [0xA5, 0x01, 0x40, 0xD2] ∧
    decodeRequest 0x40 [] = .request .getStatus := by decide

/-- The catalogue's layouts (11.5), written out byte by byte. -/
theorem test_requests_decode :
    decodeRequest 0x10 [0x01, 0xF4, 0x00, 0xFA, 0x00, 0x28, 0x0F, 0xA0, 0x01] = .request (.setWater 500 250 40 4000 1) ∧
    decodeRequest 0x26 [0x00, 0x0E, 0x10] = .request (.editContext 0 3600) ∧
    decodeRequest 0x27 [0x00, 0x00, 0x00, 0x02, 0x00, 0x00, 0x02, 0x00] = .request (.clearConditions 2 512) ∧
    decodeRequest 0x21 [] = .badLength ∧ decodeRequest 0x4B [] = .unknown := by decide

/-- 11.8: the OVERRUN refusal of a GET-STATUS reads FFh with payload 40h, 09h. -/
theorem test_overrun_reply : Reply.frame ⟨0x40, .refused .overrun⟩ = some (frameBytes 0xFF [0x40, 0x09]) := by decide

/-- 11.8: PAUSE's reply ends with GET-CONTEXT waiting and GET-STATUS in the overrun slot. The OVERRUN refusal is sent, the slot is
empty, and GET-CONTEXT still waits. -/
theorem test_overrun_refusal_goes_first :
    exec (.replySent Config.quietInputs)
        { atRest with
          lkp.inService := some 0x23, lkp.sending := some ⟨0x23, .ok .empty⟩, lkp.waiting := some (.valid 0x43 [])
          lkp.overrun := some 0x40 } =
      .next { atRest with lkp.sending := some ⟨0x40, .refused .overrun⟩, lkp.waiting := some (.valid 0x43 []) } := rfl

/-- R193 and 11.8: a frame that completes during that refusal finds GET-CONTEXT waiting, and only its kind is kept. -/
theorem test_frame_during_overrun_refusal :
    exec (.uartByteReceived 0xD2)
        { atRest with
          lkp.rx := .inside [1, 0x40], lkp.sending := some ⟨0x40, .refused .overrun⟩, lkp.waiting := some (.valid 0x43 []) } =
      .next { atRest with
        lkp.sending := some ⟨0x40, .refused .overrun⟩, lkp.waiting := some (.valid 0x43 []), lkp.overrun := some 0x40 } := rfl

/-- R8: the largest and the smallest target. -/
theorem test_target_pulses : pulsesFor 7000 1200 = 8400 ∧ pulsesFor 1500 200 = 300 := by decide

/-- R28's table at H_t = 40. -/
theorem test_bypass_pulses :
    bypassPulses 41 40 = 31 ∧ bypassPulses 100 40 = 13 ∧ bypassPulses 250 40 = 5 ∧ bypassPulses 400 40 = 3 ∧
    bypassPulses 700 40 = 2 ∧ bypassPulses 0 40 = 32 ∧ bypassPulses 40 40 = 32 ∧ bypassPulses 700 0 = 0 := by decide

/-- R33's example: K = 450, H_raw = 250, three column pulses from a residue of 0. -/
theorem test_charge_residues :
    (Config.columnDefaults.charged 250 450).residue = 250 ∧
    ((Config.columnDefaults.charged 250 450).charged 250 450).residue = 50 ∧
    (((Config.columnDefaults.charged 250 450).charged 250 450).charged 250 450).residue = 300 ∧
    (((Config.columnDefaults.charged 250 450).charged 250 450).charged 250 450).remaining = 12000000 - 1666 := by decide

/-- Chapter 1's slow supply: the limit closes the record with 1,150 of 2,000 pulses, 2,300 mL of 3.9 °dH. -/
theorem test_slow_fill :
    ((after .fillTimeLimitExpiry { filling
      { fillOf 1150 250 with target := 4000, targetPulses := 2000, bypass := 180, colA := 970 } blending with
        wpu.fillMs := 120000 }).wpu.ledger.map FillRecord.closed) = [some ⟨2300, 39, .shortAccepted⟩] := by decide

/-- Chapter 2's breakthrough: column B with 2,992,500 left is charged 500 by its 16th asserted pulse, and learns 10,504,000. -/
theorem test_breakthrough_learning :
    let t := after (.flowPulse false true)
      { filling { fillOf 5 250 with k := 500 } ⟨5, some .b, false, false⟩ with
        sfu.colB.state := .inService, sfu.colB.remaining := 2992500, sfu.colB.btRun := 15 }
    t.sfu.colB.nominal = 10504000 ∧ t.sfu.colB.remaining = 0 ∧ t.sfu.colB.state = .exhausted ∧ t.sfu.colB.btRun = 16 := by
  decide

/-- Chapter 3: 150 brine pulses at K = 500 are 300 mL and 90 g of salt; the fast rinse's target is 750 pulses. -/
theorem test_brine_salt_and_fast_rinse : volumeOf 150 500 = 300 ∧ saltFor 300 = 90 ∧ pulsesFor 1500 500 = 750 := by decide

/-- Chapter 5's reference case, its low reservoir, its short fill and its one-stroke minimum. -/
theorem test_worked_doses :
    volumeFactor 4000 4000 = 256 ∧ hardnessFactor .detergent Config.curveDefaults 39 = 237 ∧
    doseOf 250 256 237 288 = 260 ∧ fullStrokes 250 260 5 = 52 ∧
    (⟨4000, 230, 600, 5, true, false, false, 0⟩ : SupplyEntry).plannedFor 52 = 46 ∧
    volumeFactor 1150 4000 = 128 ∧ hardnessFactor .additive Config.curveDefaults 600 = 460 ∧
    doseOf 80 128 460 256 = 72 ∧ fullStrokes 80 72 5 = 14 ∧ doseOf 1 128 200 230 = 0 ∧ fullStrokes 1 0 5 = 1 := by decide

/-- Chapter 5's low reservoir in a run: with DOSE_SHORT trapped the record of 46 of 52 strokes waits for its recomputation. -/
theorem test_short_plan_is_marked :
    let t := after (.flowPulse false false)
      { filling { fillOf 1999 250 with target := 4000, targetPulses := 2000, bypass := 311, colA := 1688 } bypassing with
        wsc.active := some { inStage .fill with record := { mainPhase with detergent := some 250 } }
        wsc.ctx := some ⟨some 2, false, 0⟩, cdu.traps := Condition.doseShort.mask, spt.detergent.tracked := true
        spt.detergent.estimate := 230 }
    t.dsu.live.map (fun r => (r.dose, r.full, r.planned, r.recompute)) = [(260, 52, 46, true)] ∧ t.wsc.wash = .held := by
  decide

/-- R201's layout: the main wash's 23 bytes, both ways. -/
theorem test_phase_bytes :
    mainPhase.bytes.take 13 = [7, 1, 0x0B, 0xB8, 0x02, 0x26, 0x02, 0x58, 0x07, 0x08, 7, 30, 2] ∧
    (mainPhase.bytes.drop 19).take 2 = [2, 1] ∧ mainPhase.bytes.length = 23 ∧
    decodeRequest 0x20 [7, 1, 0x0B, 0xB8, 0x02, 0x26, 0x02, 0x58, 0x07, 0x08, 7, 30, 2, 0, 0, 0, 0, 0, 0, 2, 1, 0, 0] =
      .request (.queuePhase rawMain) := by decide

/-- R142: the pump test runs the pump at speed 3. -/
theorem test_pump_test_speed : (after (.test 2 0) (testing [])).pumpSpeed = 3 := by decide

/-- R120: a hold in HEAT shows the phase's closed fill record. -/
theorem test_held_fill_is_closed :
    ({ inHold { inStage .heat with filled := true } with wpu.ledger := [closedFill] }.heldContext.bind HeldContext.fill) =
      some ⟨false, 1500, 1500⟩ := by decide

/-- Chapter 7's worked heating of a main wash to 55.0 °C. -/
theorem test_power_levels :
    powerLevel 550 420 = 8 ∧ powerLevel 550 515 = 7 ∧ powerLevel 550 532 = 4 ∧ powerLevel 550 541 = 2 ∧
    powerLevel 550 545 = 1 ∧ powerLevel 550 528 = 5 ∧ powerLevel 550 550 = 0 := by decide

/-- Chapter 7: at 54.5 °C the target is reported reached, and HOLD begins with a MAINTAIN request at 55.0 °C. -/
theorem test_target_is_reached :
    (after (.temperatureSample 545) (washing .heat)).hcu.heat = some ⟨.maintain, 550, false, none⟩ ∧
    ((after (.temperatureSample 545) (washing .heat)).wsc.active.map ActivePhase.stage) = some .hold := by decide

/-- R146: with both channels low, A rising counts opening; B rising counts closing, down to 0. -/
theorem test_hinge_directions :
    (after (.hingeEncoderEdge .a true) { atRest with dru.doorClosed := false, dru.angle := 7 }).dru.angle = 8 ∧
    (after (.hingeEncoderEdge .b true) { atRest with dru.doorClosed := false, dru.angle := 7 }).dru.angle = 6 := by decide

/-- R148: 150 is AJAR, 151 is OPEN. -/
theorem test_door_class_boundary :
    doorClassOf false true 150 = .ajar ∧ doorClassOf false true 151 = .open ∧ doorClassOf false false 0 = .open ∧
    doorClassOf true false 0 = .closed := by decide

/-- A power-on reset whose first scan finds the machine quiet is the reset state. -/
theorem test_power_on_is_reset : exec (.powerOnReset Config.quietInputs) atRest = .next atRest := rfl

/-- The table gives no row any bits: no word spells a command (log 24). -/
theorem test_no_word_spells_a_command : atRest.withFetchWord 16 0xFFFF = atRest := rfl

/-! ## The statements' premises can be met

One theorem for each statement with hypotheses: for each of its clauses, operands and a state that meet them together, at a boundary
of their range where they have one. -/

theorem test_burstWindowsFireTheirLevel_premises :
    (∃ (levels : Nat → Nat) (s : State), s.hcu.pumpRuns = true ∧ s.wpu.waterPresent = true ∧ s.doorClass = .closed ∧
      s.dru.latched = true ∧ s.dru.opener = .retracted ∧ (s.cdu.mode = .run ∨ s.cdu.mode = .service) ∧ levels 0 ≤ 8 ∧
      (s.hcu.burst = .idle ∧ 0 < levels 0 ∨ s.hcu.burst = .off 0 ∨ s.hcu.burst = .on 0 8)) ∧
    (∃ s : State, s.hcu.pumpRuns = false ∨ s.wpu.waterPresent = false ∨ s.doorClass ≠ .closed ∨ s.dru.latched = false ∨
      s.dru.opener ≠ .retracted ∨ s.cdu.mode = .standby ∨ s.cdu.mode = .safe) :=
  ⟨⟨fun _ => 8, { washing .heat with hcu.burst := .off 0 }, by decide⟩, ⟨atRest, by decide⟩⟩

theorem test_stepTakesTheFrontCommand_premises : ∃ (c : Instr) (rest : List Instr) (s : State),
    s.pending = c :: rest :=
  ⟨.start, [.abort], { atRest with pending := [.start, .abort] }, by decide⟩

theorem test_idleStepOnlyAdvancesCounts_premises :
    (∃ (s : State) (a : _),
      s.pending = [] ∧ s.wsc.active = some a ∧ s.wsc.wash = .running ∧ a.stage = .hold ∧ a.holdEnded = false ∧
      (a.target ≤ 0 ∨ s.hcu.heat.bind HeatRequest.band = some true) ∧ 0 < a.holdSec ∧ a.holdFracMs < 1000) ∧
    (∃ (s : State) (a : _),
      s.pending = [] ∧ s.wsc.active = some a ∧ s.wsc.wash = .running ∧ a.stage = .hold ∧ a.holdEnded = false ∧
      (a.target ≤ 0 ∨ s.hcu.heat.bind HeatRequest.band = some true) ∧ 0 < a.holdSec ∧ a.holdFracMs < 1000) ∧
    (∃ (s : State) (a : _),
      s.pending = [] ∧ s.wsc.active = some a ∧
      (s.wsc.wash ≠ .running ∨ a.stage ≠ .hold ∨ a.holdEnded = true ∨ a.holdSec = 0 ∨ 0 < a.target ∧
        s.hcu.heat.bind HeatRequest.band ≠ some true) ∧
      (s.hcu.demand = none ∨ s.dru.opener ≠ .retracted ∨ s.cdu.mode = .standby ∨ s.cdu.mode = .safe)) ∧
    (∃ (s : State),
      s.pending = [] ∧ (s.hcu.demand ≠ none ∧ s.dru.opener = .retracted ∧ (s.cdu.mode = .run ∨ s.cdu.mode = .service))) :=
  ⟨⟨{ inRun { inStage .hold with holdSec := 1, holdFracMs := 999 } with hcu.heat := some ⟨.maintain, 550, true, some true⟩ },
   { inStage .hold with holdSec := 1, holdFracMs := 999 }, by decide⟩,
   ⟨inRun { inStage .hold with target := 0 }, { inStage .hold with target := 0 }, by decide⟩,
   ⟨{ inRun { inStage .hold with holdSec := 1, holdFracMs := 999 } with hcu.heat := some ⟨.maintain, 550, true, some false⟩ },
   { inStage .hold with holdSec := 1, holdFracMs := 999 }, by decide⟩,
   ⟨washing .heat, by decide⟩⟩

theorem test_powerOnResetValues_premises :
    (∃ (i : Inputs) (src : Source),
      i.overfillClosed = false ∧ i.leakWet = false ∧ 0 ≤ i.waterTemp ∧ i.waterTemp < 850 ∧ src ≠ .supply) ∧
    (∃ (i : Inputs), (i.overfillClosed = true ∨ i.leakWet = true ∨ i.waterTemp < 0 ∨ 850 ≤ i.waterTemp)) ∧
    (∃ (i : Inputs), (i.overfillClosed = true ∨ i.leakWet = true ∨ i.waterTemp < 0 ∨ 850 ≤ i.waterTemp)) :=
  ⟨⟨{ Config.quietInputs with waterTemp := 849 }, .fill, by decide⟩,
   ⟨{ Config.quietInputs with overfillClosed := true }, by decide⟩,
   ⟨{ Config.quietInputs with waterTemp := 850 }, by decide⟩⟩

theorem test_commandedResetAtReplySent_premises :
    (∃ (i : Inputs) (s : State),
      (∀ e, i.cap e = (s.entry e).capOpen) ∧ (∀ e, i.low e = (s.entry e).low) ∧ s.lkp.inService ≠ none ∧
      s.lkp.resetArmed = true ∧ i.overfillClosed = false ∧ i.leakWet = false ∧ 0 ≤ i.waterTemp ∧ i.waterTemp < 850 ∧
      s.wpu.fillRec = none ∧ s.runIn .brine = false ∧ s.sfu.list = []) ∧
    (∃ (i : Inputs) (s : State) (r : _),
      (∀ e, i.cap e = (s.entry e).capOpen) ∧ (∀ e, i.low e = (s.entry e).low) ∧ s.lkp.inService ≠ none ∧
      s.lkp.resetArmed = true ∧ i.overfillClosed = false ∧ i.leakWet = false ∧ 0 ≤ i.waterTemp ∧ i.waterTemp < 850 ∧
      s.wpu.fillRec = some r) :=
  ⟨⟨Config.quietInputs, { inRun (inStage .heat) with lkp.inService := some 0x3F, lkp.resetArmed := true },
   by intro e; cases e <;> decide, by intro e; cases e <;> decide, by decide⟩,
   ⟨Config.quietInputs, { filling (fillOf 700 0) bypassing with lkp.inService := some 0x3F, lkp.resetArmed := true },
   fillOf 700 0, by intro e; cases e <;> decide, by intro e; cases e <;> decide, by decide⟩⟩

theorem test_requestsDecodeToThemselves_premises : ∃ (i : Instr), requestFits i = true :=
  ⟨.setWater 65535 0 150 8000 255, by decide⟩

theorem test_frameBytesRunTheRequest_premises : ∃ (i : Instr) (kind : Byte) (payload : List Byte) (s : State),
    requestFits i = true ∧ encodeRequest i = some (kind, payload) ∧ s.lkp.rx = .outside ∧ s.lkp.inService = none ∧
    s.lkp.sending = none :=
  ⟨.cancelPhase 255, 0x21, [0xFF], atRest, by decide⟩

theorem test_receiverTakesFrames_premises :
    (∃ (b : Byte) (s : State), s.lkp.rx = .outside ∧ b ≠ 0xA5) ∧
    (∃ (s : State), s.lkp.rx = .outside) ∧
    (∃ (b : Byte) (s : State),
      s.lkp.rx = .inside [] ∧ s.lkp.inService = none ∧ s.lkp.sending = none ∧ (b.toNat = 0 ∨ 64 < b.toNat)) ∧
    (∃ (b : Byte) (s : State),
      s.lkp.rx = .inside [] ∧ s.lkp.inService = none ∧ s.lkp.sending = none ∧ (b.toNat = 0 ∨ 64 < b.toNat)) ∧
    (∃ (b : Byte) (s : State), s.lkp.rx = .inside [] ∧ 0 < b.toNat ∧ b.toNat ≤ 64) ∧
    (∃ (len : Byte) (bytes : List Byte) (s : State), s.lkp.rx = .inside (len :: bytes) ∧ bytes.length < len.toNat) ∧
    (∃ (len : Byte) (kind : Byte) (payload : List Byte) (b : Byte) (s : State),
      s.lkp.rx = .inside (len :: kind :: payload) ∧ payload.length + 1 = len.toNat ∧ s.lkp.inService = none ∧
      s.lkp.sending = none ∧ b ≠ crc8 (len :: kind :: payload)) ∧
    (∃ (len : Byte) (kind : Byte) (payload : List Byte) (crc : Byte) (s : State),
      s.lkp.rx = .inside (len :: kind :: payload) ∧ payload.length + 1 = len.toNat ∧ crc = crc8 (len :: kind :: payload) ∧
      (s.lkp.inService ≠ none ∨ s.lkp.sending ≠ none) ∧ s.lkp.waiting = none) ∧
    (∃ (len : Byte) (kind : Byte) (payload : List Byte) (crc : Byte) (s : State),
      s.lkp.rx = .inside (len :: kind :: payload) ∧ payload.length + 1 = len.toNat ∧ crc = crc8 (len :: kind :: payload) ∧
      (s.lkp.inService ≠ none ∨ s.lkp.sending ≠ none) ∧ s.lkp.waiting ≠ none) ∧
    (∃ (b : Byte) (s : State),
      s.lkp.rx = .inside [] ∧ (b.toNat = 0 ∨ 64 < b.toNat) ∧ (s.lkp.inService ≠ none ∨ s.lkp.sending ≠ none) ∧
      s.lkp.waiting = none) ∧
    (∃ (b : Byte) (s : State),
      s.lkp.rx = .inside [] ∧ (b.toNat = 0 ∨ 64 < b.toNat) ∧ (s.lkp.inService ≠ none ∨ s.lkp.sending ≠ none) ∧
      s.lkp.waiting ≠ none) ∧
    (∃ (len : Byte) (kind : Byte) (payload : List Byte) (b : Byte) (s : State),
      s.lkp.rx = .inside (len :: kind :: payload) ∧ payload.length + 1 = len.toNat ∧ b ≠ crc8 (len :: kind :: payload) ∧
      (s.lkp.inService ≠ none ∨ s.lkp.sending ≠ none) ∧ s.lkp.waiting = none) ∧
    (∃ (len : Byte) (kind : Byte) (payload : List Byte) (b : Byte) (s : State),
      s.lkp.rx = .inside (len :: kind :: payload) ∧ payload.length + 1 = len.toNat ∧ b ≠ crc8 (len :: kind :: payload) ∧
      (s.lkp.inService ≠ none ∨ s.lkp.sending ≠ none) ∧ s.lkp.waiting ≠ none) :=
  ⟨⟨0xA4, atRest, by decide⟩,
   ⟨atRest, by decide⟩,
   ⟨0, { atRest with lkp.rx := .inside [] }, by decide⟩,
   ⟨65, { atRest with lkp.rx := .inside [] }, by decide⟩,
   ⟨64, { atRest with lkp.rx := .inside [] }, by decide⟩,
   ⟨1, [], { atRest with lkp.rx := .inside [1] }, by decide⟩,
   ⟨1, 0x40, [], 0xD3, { atRest with lkp.rx := .inside [1, 0x40] }, by decide⟩,
   ⟨1, 0x40, [], 0xD2,
   { atRest with
     lkp.rx := .inside [1, 0x40], lkp.inService := some 0x22, lkp.sending := some ⟨0x22, .ok .empty⟩, lkp.waiting := none },
   by decide⟩,
   ⟨1, 0x40, [], 0xD2,
   { atRest with lkp.rx := .inside [1, 0x40], lkp.sending := some ⟨0x40, .refused .overrun⟩, lkp.waiting := some .crcFailure },
   by decide⟩,
   ⟨65, { atRest with lkp.rx := .inside [], lkp.sending := some ⟨0x40, .refused .overrun⟩, lkp.waiting := none }, by decide⟩,
   ⟨0,
   { atRest with
     lkp.rx := .inside [], lkp.inService := some 0x22, lkp.sending := some ⟨0x22, .ok .empty⟩, lkp.waiting := some .crcFailure },
   by decide⟩,
   ⟨1, 0x40, [], 0xD3,
   { atRest with lkp.rx := .inside [1, 0x40], lkp.sending := some ⟨0x40, .refused .overrun⟩, lkp.waiting := none }, by decide⟩,
   ⟨1, 0x40, [], 0xD3,
   { atRest with
     lkp.rx := .inside [1, 0x40], lkp.inService := some 0x22, lkp.sending := some ⟨0x22, .ok .empty⟩,
     lkp.waiting := some .lengthFailure },
   by decide⟩⟩

theorem test_replySentServesTheWaitingFrame_premises :
    (∃ (s : State), s.lkp.inService = none ∧ s.lkp.sending = none) ∧
    (∃ (k : Byte) (s : State), s.lkp.inService ≠ none ∧ s.lkp.resetArmed = false ∧ s.lkp.overrun = some k) ∧
    (∃ (s : State),
      (s.lkp.inService ≠ none ∧ s.lkp.resetArmed = false ∧ s.lkp.overrun = none ∨ s.lkp.inService = none ∧ s.lkp.sending ≠ none) ∧
      s.lkp.waiting = none) ∧
    (∃ (s : State),
      (s.lkp.inService ≠ none ∧ s.lkp.resetArmed = false ∧ s.lkp.overrun = none ∨ s.lkp.inService = none ∧ s.lkp.sending ≠ none) ∧
      s.lkp.waiting = none) ∧
    (∃ (s : State),
      (s.lkp.inService ≠ none ∧ s.lkp.resetArmed = false ∧ s.lkp.overrun = none ∨ s.lkp.inService = none ∧ s.lkp.sending ≠ none) ∧
      s.lkp.waiting = some .lengthFailure) ∧
    (∃ (s : State),
      (s.lkp.inService ≠ none ∧ s.lkp.resetArmed = false ∧ s.lkp.overrun = none ∨ s.lkp.inService = none ∧ s.lkp.sending ≠ none) ∧
      s.lkp.waiting = some .crcFailure) ∧
    (∃ (s : State) (kind : _) (payload : _),
      (s.lkp.inService ≠ none ∧ s.lkp.resetArmed = false ∧ s.lkp.overrun = none ∨ s.lkp.inService = none ∧ s.lkp.sending ≠ none) ∧
      s.lkp.waiting = some (.valid kind payload) ∧ fieldWidths kind.toNat = none) ∧
    (∃ (s : State) (kind : _) (payload : _) (ws : _),
      (s.lkp.inService ≠ none ∧ s.lkp.resetArmed = false ∧ s.lkp.overrun = none ∨ s.lkp.inService = none ∧ s.lkp.sending ≠ none) ∧
      s.lkp.waiting = some (.valid kind payload) ∧ fieldWidths kind.toNat = some ws ∧ payload.length ≠ ws.sum) ∧
    (∃ (s : State) (kind : _) (payload : _) (r : _),
      (s.lkp.inService ≠ none ∧ s.lkp.resetArmed = false ∧ s.lkp.overrun = none ∨ s.lkp.inService = none ∧ s.lkp.sending ≠ none) ∧
      s.lkp.waiting = some (.valid kind payload) ∧ requestFits r = true ∧ encodeRequest r = some (kind, payload) ∧
      s.lkp.supervision = none) :=
  ⟨⟨atRest, by decide⟩,
   ⟨0x40,
   { atRest with
     lkp.inService := some 0x22, lkp.sending := some ⟨0x22, .ok .empty⟩, lkp.waiting := some (.valid 0x43 []),
     lkp.overrun := some 0x40 },
   by decide⟩,
   ⟨{ atRest with lkp.inService := some 0x22, lkp.sending := some ⟨0x22, .ok .empty⟩, lkp.waiting := none, lkp.overrun := none },
   by decide⟩,
   ⟨{ atRest with lkp.sending := some ⟨0x40, .refused .overrun⟩, lkp.waiting := none, lkp.overrun := none }, by decide⟩,
   ⟨{ atRest with
     lkp.inService := some 0x22, lkp.sending := some ⟨0x22, .ok .empty⟩, lkp.waiting := some .lengthFailure, lkp.overrun := none },
   by decide⟩,
   ⟨{ atRest with lkp.sending := some ⟨0x40, .refused .overrun⟩, lkp.waiting := some .crcFailure, lkp.overrun := some 0 },
   by decide⟩,
   ⟨{ atRest with lkp.sending := some ⟨0x40, .refused .overrun⟩, lkp.waiting := some (.valid 0x4B []), lkp.overrun := none },
   0x4B, [], by decide⟩,
   ⟨{ atRest with
     lkp.inService := some 0x22, lkp.sending := some ⟨0x22, .ok .empty⟩, lkp.waiting := some (.valid 0x21 []),
     lkp.overrun := none },
   0x21, [], [1], by decide⟩,
   ⟨{ atRest with lkp.sending := some ⟨0x40, .refused .overrun⟩, lkp.waiting := some (.valid 0x25 []), lkp.overrun := some 0x40 },
   0x25, [], .abort, by decide⟩⟩

theorem test_attentionIsLatchedInTurnAndAcknowledged_premises :
    (∃ (src : Source) (k : Nat) (s : State),
      (∀ x : Source, ∀ j, j < k → x.idx.val = (s.lkp.lastLatched.idx.val + 1 + j) % 12 → s.pendingSource x = false) ∧
      s.lkp.latch = none ∧ 1 ≤ s.lkp.lineLowMs ∧ k < 12 ∧ src.idx.val = (s.lkp.lastLatched.idx.val + 1 + k) % 12 ∧
      s.pendingSource src = true) ∧
    (∃ (src : Source) (k : Nat) (s : State),
      (∀ x : Source, ∀ j, j < k → x.idx.val = (s.lkp.lastLatched.idx.val + 1 + j) % 12 → s.pendingSource x = false) ∧
      s.lkp.latch = none ∧ 1 ≤ s.lkp.lineLowMs ∧ k < 12 ∧ src.idx.val = (s.lkp.lastLatched.idx.val + 1 + k) % 12 ∧
      s.pendingSource src = true) ∧
    (∃ (s : State), (∀ x, s.pendingSource x = false)) ∧
    (∃ (s : State), (s.lkp.latch ≠ none ∨ s.lkp.lineLowMs = 0)) ∧
    (∃ (src : Source) (sm : Summary) (s : State), s.lkp.latch = some src ∧ s.told src sm) ∧
    (∃ (s : State), s.lkp.latch = none) ∧
    (∃ (n : Nat), 11 < n) ∧
    (∃ (src : Source) (s : State) (x : Source), s.lkp.latch = some src ∧ x ≠ src ∧ s.pendingSource x = true) ∧
    (∃ (src : Source) (s : State), (∀ x : Source, x ≠ src → s.pendingSource x = false) ∧ s.lkp.latch = some src) ∧
    (∃ (src : Source) (s : State), s.lkp.latch ≠ some src) :=
  ⟨⟨.mode, 0, setAttention .mode (.mode .run) atRest, by intro _ _ h; exact absurd h (Nat.not_lt_zero _), by decide⟩,
   ⟨.fill, 11, setAttention .fill (.fill 7 .complete) atRest,
   by
    intro x j hj hx
    cases x <;> first | rfl | exact absurd hx (by revert j; decide), by decide⟩,
   ⟨atRest, by intro x; cases x <;> decide⟩,
   ⟨{ atRest with lkp.lineLowMs := 0 }, by decide⟩,
   ⟨.fill, .fill 255 .abandoned, { setAttention .fill (.fill 255 .abandoned) atRest with lkp.latch := some .fill }, by decide⟩,
   ⟨atRest, by decide⟩,
   ⟨12, by decide⟩,
   ⟨.fill, { setAttention .mode (.mode .run) (setAttention .fill (.fill 7 .complete) atRest) with lkp.latch := some .fill },
   .mode, by decide⟩,
   ⟨.fill, { setAttention .fill (.fill 7 .complete) atRest with lkp.latch := some .fill },
   by intro x hx; cases x <;> first | rfl | exact absurd rfl hx, by decide⟩,
   ⟨.mode, { setAttention .mode (.mode .run) (setAttention .fill (.fill 7 .complete) atRest) with lkp.latch := some .fill },
   by decide⟩⟩

theorem test_queriesOnlyAnswer_premises :
    (∃ (s : State) (blend : _),
      (∀ b r, s.sfu.blend = some b → s.wpu.fillRec = some r → blend = some (b, r.pulses % 32)) ∧
      (s.sfu.blend = none ∨ s.wpu.fillRec = none → blend = none)) ∧
    (∃ (s : State), (s.wsc.wash ≠ .held ∨ s.wsc.active = none)) ∧
    (∃ (a : ActivePhase) (s : State) (r : _), s.wsc.wash = .held ∧ s.wsc.active = some a ∧ s.wpu.fillRec = some r) ∧
    (∃ (a : ActivePhase) (s : State) (r : _) (rest : _),
      s.wsc.wash = .held ∧ s.wsc.active = some a ∧ s.wpu.fillRec = none ∧ a.filled = true ∧ s.wpu.ledger = r :: rest) ∧
    (∃ (a : ActivePhase) (s : State), s.wsc.wash = .held ∧ s.wsc.active = some a ∧ s.wpu.fillRec = none ∧ a.filled = false) ∧
    (∃ (index : Nat) (r : FillRecord) (s : State) (c : _),
      s.wpu.ledger.length ≤ 8 ∧ r.phaseId ≤ 255 ∧
      (index < 8 ∧ s.wpu.ledger[index]? = some r ∨ index = 255 ∧ s.wpu.fillRec = some r) ∧ r.closed = some c ∧
      c.delivered ≤ 65535 ∧ c.hardness ≤ 65535) ∧
    (∃ (index : Nat) (r : FillRecord) (s : State),
      s.wpu.ledger.length ≤ 8 ∧ r.phaseId ≤ 255 ∧
      (index < 8 ∧ s.wpu.ledger[index]? = some r ∨ index = 255 ∧ s.wpu.fillRec = some r) ∧ r.closed = none ∧
      r.target ≤ 65535 ∧ r.targetPulses ≤ 65535 ∧ r.pulses ≤ 65535 ∧ r.bypass ≤ 65535 ∧ r.colA ≤ 65535 ∧ r.colB ≤ 65535 ∧
      r.hRaw ≤ 65535 ∧ r.hT ≤ 65535 ∧ r.k ≤ 65535 ∧ r.vRef ≤ 65535 ∧ r.limitCode ≤ 255 ∧ r.start < 4294967296) ∧
    (∃ (index : Nat) (s : State), (index < 8 ∧ s.wpu.ledger.length ≤ index ∨ index = 255 ∧ s.wpu.fillRec = none)) ∧
    (∃ (index : Nat) (s : State), (index < 8 ∧ s.wpu.ledger.length ≤ index ∨ index = 255 ∧ s.wpu.fillRec = none)) ∧
    (∃ (index : Nat), 8 ≤ index ∧ index ≠ 255) ∧
    (∃ (s : State) (n : _),
      s.wsc.active = none ∧ -32768 ≤ s.hcu.temp ∧ s.hcu.temp ≤ 32767 ∧ s.hcu.heat = none ∧ s.hcu.level ≤ 255 ∧
      n = s.hcu.demand.getD 0 ∧ n ≤ 3 ∧ s.hcu.zone = none ∧ s.hcu.mask ≤ 255 ∧ s.hcu.lowerArm.average ≤ 65535 ∧
      s.hcu.upperArm.average ≤ 65535 ∧ s.hcu.lastMean ≤ 65535 ∧ s.hcu.circMs / 1000 ≤ 65535 ∧ s.hcu.heatMs / 1000 ≤ 65535 ∧
      -32768 ≤ s.dyc.cabTemp ∧ s.dyc.cabTemp ≤ 32767 ∧ 0 ≤ s.dyc.cabHum ∧ s.dyc.cabHum ≤ 255) ∧
    (∃ (s : State) (a : _) (q : _),
      s.wsc.active = some a ∧ a.record.id ≤ 255 ∧ s.hcu.heat = some q ∧ 0 ≤ q.target ∧ q.target ≤ 65535) ∧
    (∃ (s : State) (n : _), n = s.hcu.lastClass.getD 255 ∧ n ≤ 255) ∧
    (∃ (s : State) (r : _), s.dyc.run = some r ∧ r.stateMs / 1000 ≤ 65535 ∧ r.dryTime ≤ 65535 ∧ r.dryMs / 1000 ≤ 65535) :=
  ⟨⟨filling (fillOf 33 200) blending, some (blending, 1), by rintro _ _ ⟨⟩ ⟨⟩; rfl, by decide⟩,
   ⟨inRun (inStage .heat), by decide⟩,
   ⟨inStage .fill, { inHold (inStage .fill) with wpu.fillRec := some (fillOf 40 0) }, fillOf 40 0, by decide⟩,
   ⟨{ inStage .sense with filled := true }, { inHold { inStage .sense with filled := true } with wpu.ledger := [closedFill] },
   closedFill, [], by decide⟩,
   ⟨inStage .fill, inHold (inStage .fill), by decide⟩,
   ⟨7, { closedFill with phaseId := 255 }, { atRest with wpu.ledger := List.replicate 8 { closedFill with phaseId := 255 } },
   ⟨3000, 0, .complete⟩, by decide⟩,
   ⟨255, fillOf 0 0, filling (fillOf 0 0) bypassing, by decide⟩,
   ⟨7, { atRest with wpu.ledger := List.replicate 7 closedFill }, by decide⟩,
   ⟨255, atRest, by decide⟩,
   ⟨8, by decide⟩,
   ⟨atRest, 0, by decide⟩,
   ⟨washing .heat, inStage .heat, ⟨.heat, 550, false, none⟩, by decide⟩,
   ⟨atRest, 255, by decide⟩,
   ⟨drying (dryRun .ajar), dryRun .ajar, by decide⟩⟩

theorem test_waterDryAndSupplyAreConfigured_premises :
    (∃ (fan : Nat), fan ≤ 1) ∧
    (∃ (fan : Nat), 1 < fan) ∧
    (∃ (e : Entry) (estimate : Nat) (x : _), x ≠ e ∧ estimate ≠ 65535 ∧ e ≠ .salt) ∧
    (∃ (e : Entry) (estimate : Nat), estimate = 65535 ∧ e = .salt) ∧
    (∃ (n : Nat), 3 < n) :=
  ⟨⟨1, by decide⟩,
   ⟨2, by decide⟩,
   ⟨.detergent, 65534, .salt, by decide⟩,
   ⟨.salt, 65535, by decide⟩,
   ⟨4, by decide⟩⟩

theorem test_columnIsConfigured_premises :
    (∃ (n : Nat) (hold : Nat), (1 < n ∨ 1 < hold)) ∧
    (∃ (c : Column) (hold : Nat) (s : State), hold ≤ 1 ∧ (s.col c).state = .regenerating) ∧
    (∃ (c : Column) (nominal : Nat) (remaining : Nat) (hold : Nat) (s : State) (v : _) (r : ColumnRecord),
      hold ≤ 1 ∧ (s.col c).state ≠ .regenerating ∧ nominal = 4294967295 ∧
      v = min (if remaining = 4294967295 then (s.col c).remaining else remaining) r.nominal ∧ hold = 1 ∧
      s.grantedRoute ≠ some c) ∧
    (∃ (c : Column) (nominal : Nat) (remaining : Nat) (hold : Nat) (s : State) (v : _) (r : ColumnRecord),
      hold ≤ 1 ∧ (s.col c).state ≠ .regenerating ∧ nominal = 4294967295 ∧
      v = min (if remaining = 4294967295 then (s.col c).remaining else remaining) r.nominal ∧ hold = 1 ∧
      s.grantedRoute = some c ∧ (s.col c).state = .inService ∧ 0 < v) ∧
    (∃ (c : Column) (nominal : Nat) (remaining : Nat) (hold : Nat) (s : State) (v : _) (r : ColumnRecord),
      hold ≤ 1 ∧ (s.col c).state ≠ .regenerating ∧ nominal = 4294967295 ∧
      v = min (if remaining = 4294967295 then (s.col c).remaining else remaining) r.nominal ∧ hold = 0 ∧ 0 < v ∧
      (s.col c).state = .held) ∧
    (∃ (c : Column) (nominal : Nat) (remaining : Nat) (hold : Nat) (s : State) (v : _) (r : ColumnRecord),
      hold ≤ 1 ∧ (s.col c).state ≠ .regenerating ∧ nominal = 4294967295 ∧
      v = min (if remaining = 4294967295 then (s.col c).remaining else remaining) r.nominal ∧ hold = 0 ∧ v = 0 ∧
      ((s.col c).state = .fresh ∨ (s.col c).state = .inService) ∧ s.grantedRoute ≠ some c ∧ s.sfu.settings.automatic = false) ∧
    (∃ (c : Column) (nominal : Nat) (remaining : Nat) (hold : Nat) (s : State) (v : _) (r : ColumnRecord),
      hold ≤ 1 ∧ (s.col c).state ≠ .regenerating ∧ nominal ≠ 4294967295 ∧
      v = min (if remaining = 4294967295 then (s.col c).remaining else remaining) r.nominal) ∧
    (∃ (c : Column) (remaining : Nat) (hold : Nat) (f : FillRecord) (b : Blend) (s : State),
      hold ≤ 1 ∧ (s.col c).state = .inService ∧ s.wpu.grant = some .fill ∧ s.wpu.fillRec = some f ∧
      f.pulses < f.targetPulses ∧ s.sfu.blend = some b ∧ b.service = some c ∧ b.nb < 32 ∧ s.wpu.inhibit = false ∧
      (s.col c.other).state = .fresh ∧ s.listed c.other = false ∧ remaining = 0 ∧ hold = 1) ∧
    (∃ (c : Column) (remaining : Nat) (hold : Nat) (f : FillRecord) (b : Blend) (s : State),
      hold ≤ 1 ∧ (s.col c).state = .inService ∧ s.wpu.grant = some .fill ∧ s.wpu.fillRec = some f ∧
      f.pulses < f.targetPulses ∧ s.sfu.blend = some b ∧ b.service = some c ∧ b.nb < 32 ∧ s.wpu.inhibit = false ∧
      (s.col c.other).state = .fresh ∧ s.listed c.other = false ∧ remaining = 0 ∧ hold = 0 ∧ s.sfu.settings.automatic = false) ∧
    (∃ (c : Column) (remaining : Nat) (hold : Nat) (f : FillRecord) (b : Blend) (s : State),
      (∀ q, s.sfu.run = some q → q.outcome ≠ none) ∧ hold ≤ 1 ∧ (s.col c).state = .inService ∧ s.wpu.grant = some .fill ∧
      s.wpu.fillRec = some f ∧ f.pulses < f.targetPulses ∧ s.sfu.blend = some b ∧ b.service = some c ∧ b.nb < 32 ∧
      s.wpu.inhibit = false ∧ (s.col c.other).state = .fresh ∧ s.listed c.other = false ∧ remaining = 0 ∧ hold = 0 ∧
      s.sfu.settings.automatic = true ∧ s.listed c = false ∧ s.sfu.list = [] ∧ s.cdu.mode = .run ∧
      s.sfu.settings.window = .anytime) ∧
    (∃ (c : Column) (remaining : Nat) (hold : Nat) (f : FillRecord) (b : Blend) (s : State),
      (∀ q, s.sfu.run = some q → q.outcome ≠ none) ∧ (∀ a, s.wsc.active = some a → a.record.kind ≠ .dry) ∧ hold ≤ 1 ∧
      (s.col c).state = .inService ∧ s.wpu.grant = some .fill ∧ s.wpu.fillRec = some f ∧ f.pulses < f.targetPulses ∧
      s.sfu.blend = some b ∧ b.service = some c ∧ b.nb < 32 ∧ s.wpu.inhibit = false ∧ (s.col c.other).state = .fresh ∧
      s.listed c.other = false ∧ remaining = 0 ∧ hold = 0 ∧ s.sfu.settings.automatic = true ∧ s.listed c = false ∧
      s.sfu.list = [] ∧ s.cdu.mode = .run ∧ s.sfu.settings.window = .quiet) ∧
    (∃ (c : Column) (s : State) (q : _),
      ((s.col c).state = .fresh ∨ (s.col c).state = .inService) ∧ s.grantedRoute ≠ some c ∧ s.sfu.settings.automatic = true ∧
      s.listed c = false ∧ s.sfu.run = some q ∧ q.outcome = none) ∧
    (∃ (c : Column) (s : State),
      (∀ q, s.sfu.run = some q → q.outcome ≠ none) ∧ ((s.col c).state = .fresh ∨ (s.col c).state = .inService) ∧
      s.grantedRoute ≠ some c ∧ s.sfu.settings.automatic = true ∧ s.listed c = false ∧ s.sfu.list = [] ∧ s.cdu.mode ≠ .safe ∧
      s.wpu.inhibit = false ∧ s.sfu.settings.window = .quiet ∧ s.windowOpen .quiet = false) ∧
    (∃ (c : Column) (s : State),
      (∀ q, s.sfu.run = some q → q.outcome ≠ none) ∧ ((s.col c).state = .fresh ∨ (s.col c).state = .inService) ∧
      s.grantedRoute ≠ some c ∧ s.sfu.settings.automatic = true ∧ s.listed c = false ∧ s.sfu.list = [] ∧ s.cdu.mode ≠ .safe ∧
      s.wpu.inhibit = false ∧ s.sfu.settings.window = .anytime ∧ s.wpu.grant = none) ∧
    (∃ (c : Column) (remaining : Nat) (s : State),
      (s.col c).state = .held ∧ s.grantedRoute ≠ some c ∧ (remaining = 0 ∨ remaining = 4294967295 ∧ (s.col c).remaining = 0) ∧
      (s.sfu.settings.automatic = false ∨ s.listed c = true)) ∧
    (∃ (c : Column) (remaining : Nat) (s : State),
      (s.col c).state = .held ∧ s.grantedRoute ≠ some c ∧ (remaining = 0 ∨ remaining = 4294967295 ∧ (s.col c).remaining = 0) ∧
      (s.sfu.settings.automatic = false ∨ s.listed c = true)) ∧
    (∃ (c : Column) (remaining : Nat) (s : State) (q : _),
      (s.col c).state = .held ∧ s.grantedRoute ≠ some c ∧ (remaining = 0 ∨ remaining = 4294967295 ∧ (s.col c).remaining = 0) ∧
      s.sfu.settings.automatic = true ∧ s.listed c = false ∧ s.sfu.list ≠ [] ∧ s.sfu.run = some q ∧ q.outcome = none) ∧
    (∃ (c : Column) (remaining : Nat) (s : State),
      (∀ q, s.sfu.run = some q → q.outcome ≠ none) ∧ (s.col c).state = .held ∧ s.grantedRoute ≠ some c ∧
      (remaining = 0 ∨ remaining = 4294967295 ∧ (s.col c).remaining = 0) ∧ s.sfu.settings.automatic = true ∧
      s.listed c = false ∧ s.sfu.list = [] ∧ s.cdu.mode ≠ .safe ∧ s.wpu.inhibit = false ∧ s.sfu.settings.window = .quiet ∧
      s.windowOpen .quiet = false) ∧
    (∃ (c : Column) (remaining : Nat) (s : State),
      (∀ q, s.sfu.run = some q → q.outcome ≠ none) ∧ (s.col c).state = .held ∧ s.grantedRoute ≠ some c ∧
      (remaining = 0 ∨ remaining = 4294967295 ∧ (s.col c).remaining = 0) ∧ s.sfu.settings.automatic = true ∧
      s.listed c = false ∧ s.sfu.list = [] ∧ s.cdu.mode ≠ .safe ∧ s.wpu.inhibit = false ∧ s.sfu.settings.window = .anytime ∧
      s.wpu.grant = none) :=
  ⟨⟨2, 0, by decide⟩,
   ⟨.b, 1, { atRest with sfu.colB.state := .regenerating }, by decide⟩,
   ⟨.a, 4294967295, 4294967295, 1, atRest, 12000000, Config.columnDefaults, by decide⟩,
   ⟨.a, 4294967295, 4294967295, 1, blendFill 5, 12000000, Config.columnDefaults, by decide⟩,
   ⟨.a, 4294967295, 4294967295, 0, { atRest with sfu.colA.state := .held, sfu.settings.automatic := false }, 12000000,
   Config.columnDefaults, by decide⟩,
   ⟨.a, 4294967295, 0, 0, { atRest with sfu.colA.state := .inService, sfu.settings.automatic := false }, 0,
   Config.columnDefaults, by decide⟩,
   ⟨.a, 2000000, 4294967295, 0, atRest, 2000000, { Config.columnDefaults with nominal := 2000000 }, by decide⟩,
   ⟨.a, 0, 1, fillOf 5 200, blending, blendFill 5, by decide⟩,
   ⟨.a, 0, 0, fillOf 5 200, blending, blendFill 5, by decide⟩,
   ⟨.a, 0, 0, fillOf 5 200, blending, { blendFill 5 with sfu.settings.automatic := true }, by rintro _ ⟨⟩, by decide⟩,
   ⟨.a, 0, 0, fillOf 5 200, blending, { blendFill 5 with sfu.settings.automatic := true, sfu.settings.window := .quiet },
   by rintro _ ⟨⟩, by rintro _ ⟨⟩; decide, by decide⟩,
   ⟨.a, { atRest with sfu.run := some { runIn .waitWindow with column := .b }, sfu.list := [⟨.b, false⟩] },
   { runIn .waitWindow with column := .b }, by decide⟩,
   ⟨.a, { inMode .service with sfu.settings.window := .quiet }, by rintro _ ⟨⟩, by decide⟩,
   ⟨.a, { atRest with sfu.colA.state := .inService }, by rintro _ ⟨⟩, by decide⟩,
   ⟨.a, 0, { atRest with sfu.colA.state := .held, sfu.settings.automatic := false }, by decide⟩,
   ⟨.a, 4294967295, { atRest with sfu.colA.state := .held, sfu.colA.remaining := 0, sfu.settings.automatic := false },
   by decide⟩,
   ⟨.a, 0,
   { atRest with sfu.colA.state := .held, sfu.run := some { runIn .waitWindow with column := .b }, sfu.list := [⟨.b, false⟩] },
   { runIn .waitWindow with column := .b }, by decide⟩,
   ⟨.a, 0, { inMode .service with sfu.colA.state := .held, sfu.settings.window := .quiet }, by rintro _ ⟨⟩, by decide⟩,
   ⟨.a, 0, { atRest with sfu.colA.state := .held }, by rintro _ ⟨⟩, by decide⟩⟩

theorem test_doseTablesAreLoaded_premises :
    (∃ (ps : List (Nat × Nat)) (s : State),
      (ps.length = 6 ∧ (∀ p ∈ ps, p.1 ≤ 700 ∧ 64 ≤ p.2 ∧ p.2 ≤ 1024) ∧ ps.Pairwise (fun p q => p.1 < q.1)) ∧
      (s.dsu.live = [] ∧ s.dsu.ended = [])) ∧
    (∃ (ps : List (Nat × Nat)) (s : State),
      (ps.length = 6 ∧ (∀ p ∈ ps, p.1 ≤ 700 ∧ 64 ≤ p.2 ∧ p.2 ≤ 1024) ∧ ps.Pairwise (fun p q => p.1 < q.1)) ∧
      (s.dsu.live ≠ [] ∨ s.dsu.ended ≠ [])) ∧
    (∃ (ps : List (Nat × Nat)),
      (¬(ps.length = 6 ∧ (∀ p ∈ ps, p.1 ≤ 700 ∧ 64 ≤ p.2 ∧ p.2 ≤ 1024) ∧ ps.Pairwise (fun p q => p.1 < q.1)))) ∧
    (∃ (t1 : Nat) (t2 : Nat) (t3 : Nat) (f0 : Nat) (f1 : Nat) (f2 : Nat) (f3 : Nat) (s : State),
      (t1 < t2 ∧ t2 < t3 ∧ t3 ≤ 1023 ∧ (∀ f ∈ [f0, f1, f2, f3], 128 ≤ f ∧ f ≤ 1024)) ∧ (s.dsu.live = [] ∧ s.dsu.ended = [])) ∧
    (∃ (t1 : Nat) (t2 : Nat) (t3 : Nat) (f0 : Nat) (f1 : Nat) (f2 : Nat) (f3 : Nat) (s : State),
      (t1 < t2 ∧ t2 < t3 ∧ t3 ≤ 1023 ∧ (∀ f ∈ [f0, f1, f2, f3], 128 ≤ f ∧ f ≤ 1024)) ∧ (s.dsu.live ≠ [] ∨ s.dsu.ended ≠ [])) ∧
    (∃ (t1 : Nat) (t2 : Nat) (t3 : Nat) (f0 : Nat) (f1 : Nat) (f2 : Nat) (f3 : Nat),
      (¬(t1 < t2 ∧ t2 < t3 ∧ t3 ≤ 1023 ∧ (∀ f ∈ [f0, f1, f2, f3], 128 ≤ f ∧ f ≤ 1024)))) ∧
    (∃ (ts : List Nat) (fs : List Nat), (ts.length ≠ 3 ∨ fs.length ≠ 4)) :=
  ⟨⟨[(0, 64), (1, 1024), (2, 64), (3, 64), (4, 64), (700, 64)], atRest, by decide⟩,
   ⟨[(0, 64), (1, 1024), (2, 64), (3, 64), (4, 64), (700, 64)], { atRest with dsu.live := [dose .detergent .waiting 0 0] },
   by decide⟩,
   ⟨[(0, 64), (1, 1024), (2, 64), (3, 64), (4, 64), (701, 64)], by decide⟩,
   ⟨0, 1, 1023, 128, 1024, 128, 1024, atRest, by decide⟩,
   ⟨0, 1, 1023, 128, 1024, 128, 1024, { atRest with dsu.live := [dose .detergent .waiting 0 0] }, by decide⟩,
   ⟨0, 1, 1024, 128, 1024, 128, 1024, by decide⟩,
   ⟨[0, 1], [128, 128, 128, 128], by decide⟩⟩

theorem test_phasesAreQueuedAndCancelled_premises :
    (∃ (r : RawPhase), ¬r.allowed) ∧
    (∃ (r : RawPhase) (s : State), r.allowed ∧ (s.cdu.mode ≠ .standby ∧ s.cdu.mode ≠ .run)) ∧
    (∃ (r : RawPhase) (s : State), r.allowed ∧ (s.cdu.mode = .standby ∨ s.cdu.mode = .run) ∧ 12 ≤ s.wsc.queue.length) ∧
    (∃ (r : RawPhase) (s : State),
      r.allowed ∧ s.usesId r.id ∧ (s.cdu.mode = .standby ∨ s.cdu.mode = .run) ∧ s.wsc.queue.length < 12) ∧
    (∃ (r : RawPhase) (s : State),
      r.allowed ∧ ¬s.usesId r.id ∧ (s.cdu.mode = .standby ∨ s.cdu.mode = .run) ∧ s.wsc.queue.length < 12) ∧
    (∃ (r : RawPhase) (p : PhaseRecord), r.check = some p) ∧
    (∃ (id : Nat), (id = 0 ∨ 255 < id)) ∧
    (∃ (a : ActivePhase) (s : State), 1 ≤ a.record.id ∧ a.record.id ≤ 255 ∧ s.wsc.active = some a) ∧
    (∃ (id : Nat) (s : State),
      (∀ a, s.wsc.active = some a → a.record.id ≠ id) ∧ 1 ≤ id ∧ id ≤ 255 ∧ (∀ q ∈ s.wsc.queue, q.id ≠ id)) ∧
    (∃ (front : List PhaseRecord) (back : List PhaseRecord) (p : PhaseRecord) (s : State),
      (∀ a, s.wsc.active = some a → a.record.id ≠ p.id) ∧ 1 ≤ p.id ∧ p.id ≤ 255 ∧ s.wsc.queue = front ++ p :: back ∧
      (∀ q ∈ front ++ back, q.id ≠ p.id)) :=
  ⟨⟨{ rawMain with id := 0 }, by rintro ⟨⟨h, _⟩, _⟩; exact absurd h (by decide)⟩,
   ⟨rawMain, inMode .service, by and_intros <;> decide, by decide⟩,
   ⟨rawMain, { atRest with wsc.queue := List.replicate 12 mainPhase }, by and_intros <;> decide, by decide⟩,
   ⟨rawMain, inRun (inStage .hold), by and_intros <;> decide, Or.inr ⟨_, rfl, rfl⟩, by decide⟩,
   ⟨{ rawMain with id := 255 }, atRest, by and_intros <;> decide,
   by simp [State.usesId, atRest, State.reset, State.atPowerOn, WashController.atReset], by decide⟩,
   ⟨rawMain, mainPhase, by decide⟩,
   ⟨256, by decide⟩,
   ⟨inStage .hold, inRun (inStage .hold), by decide⟩,
   ⟨255, inRun (inStage .hold), by rintro _ ⟨⟩; decide, by decide⟩,
   ⟨[{ mainPhase with id := 1 }], [{ mainPhase with id := 254 }], { mainPhase with id := 255 },
   { atRest with wsc.queue := [{ mainPhase with id := 1 }, { mainPhase with id := 255 }, { mainPhase with id := 254 }] },
   by rintro _ ⟨⟩, by decide⟩⟩

theorem test_startBeginsTheProgram_premises :
    (∃ (r : PhaseRecord) (rest : List PhaseRecord) (s : State),
      (∀ c, s.activeTest c = false) ∧ s.cdu.mode = .standby ∧ s.wsc.abortDrain = false ∧ s.wsc.queue = r :: rest ∧
      s.doorClass = .closed ∧ s.dru.latched = true ∧ s.dru.opener = .retracted ∧ r.kind.isWater = true ∧ s.sfu.run = none ∧
      s.wpu.grant = none ∧ s.wpu.inhibit = false ∧ s.wpu.fillRec = none ∧ s.wpu.settings.hRaw ≤ s.wpu.settings.hT ∧
      0 < s.wpu.settings.k) ∧
    (∃ (r : PhaseRecord) (rest : List PhaseRecord) (s : State),
      (∀ c, s.activeTest c = false) ∧ s.cdu.mode = .standby ∧ s.wsc.abortDrain = false ∧ s.wsc.queue = r :: rest ∧
      s.doorClass = .closed ∧ s.dru.latched = true ∧ s.dru.opener = .retracted ∧ s.sfu.run = none ∧ r.kind = .drain) ∧
    (∃ (r : PhaseRecord) (rest : List PhaseRecord) (s : State),
      (∀ c, s.activeTest c = false) ∧ s.cdu.mode = .standby ∧ s.wsc.abortDrain = false ∧ s.wsc.queue = r :: rest ∧
      s.doorClass = .closed ∧ s.dru.latched = true ∧ s.dru.opener = .retracted ∧ s.sfu.run = none ∧ r.kind = .dry) ∧
    (∃ (s : State),
      (s.cdu.mode ≠ .standby ∨ s.wsc.abortDrain = true ∨ s.wsc.queue = [] ∨ s.doorClass ≠ .closed ∨ s.dru.latched = false ∨
        s.dru.opener ≠ .retracted ∨ (∃ c, s.activeTest c = true))) :=
  ⟨⟨mainPhase, [], { atRest with wsc.queue := [mainPhase] }, by intro c; cases c <;> decide, by decide⟩,
   ⟨drainPhase, [mainPhase], { atRest with wsc.queue := [drainPhase, mainPhase] }, by intro c; cases c <;> decide, by decide⟩,
   ⟨dryPhase, [], { atRest with wsc.queue := [dryPhase] }, by intro c; cases c <;> decide, by decide⟩,
   ⟨atRest, Or.inr (Or.inr (Or.inl rfl))⟩⟩

theorem test_pauseHoldsTheWash_premises :
    (∃ (a : ActivePhase) (s : State),
      s.cdu.mode = .run ∧ s.wsc.wash = .running ∧ s.wsc.active = some a ∧ a.stage.isWet = true ∧
      (a.stage = .heat ∨ a.stage = .hold ∨ a.stage = .sense)) ∧
    (∃ (a : ActivePhase) (s : State),
      s.cdu.mode = .run ∧ s.wsc.wash = .running ∧ s.wsc.active = some a ∧ a.stage.isWet = true ∧ a.stage = .fill ∧
      (s.wpu.grant ≠ some .fill ∨ s.wpu.waitRegen = none)) ∧
    (∃ (a : ActivePhase) (s : State),
      s.cdu.mode = .run ∧ s.wsc.wash = .running ∧ s.wsc.active = some a ∧ a.stage.isWet = true ∧ a.stage = .fill ∧
      s.wpu.grant = some .fill ∧ s.wpu.waitRegen ≠ none) ∧
    (∃ (a : ActivePhase) (s : State),
      s.cdu.mode = .run ∧ s.wsc.wash = .running ∧ s.wsc.active = some a ∧ a.stage.isWet = true ∧ a.stage = .drain) ∧
    (∃ (a : ActivePhase) (s : State) (r : _),
      s.cdu.mode = .run ∧ s.wsc.wash = .running ∧ s.wsc.active = some a ∧ a.stage ≠ .fill ∧ a.stage = .drying ∧
      s.dyc.run = some r ∧ r.state ≠ .ended ∧ r.suspended = false) ∧
    (∃ (s : State), s.cdu.mode = .run ∧ s.wsc.wash = .held) ∧
    (∃ (s : State), s.cdu.mode ≠ .run) :=
  ⟨⟨inStage .sense, washing .sense, by decide⟩,
   ⟨inStage .fill, filling (fillOf 40 0) bypassing, by decide⟩,
   ⟨inStage .fill,
   { filling (fillOf 40 0) bypassing with
     wpu.waitRegen := some .brine, sfu.run := some (runIn (.waitInlet .brine)), sfu.list := [⟨.a, false⟩] },
   by decide⟩,
   ⟨inStage .drain, { inRun (inStage .drain) with wpu.drain := some ⟨0, 0⟩ }, by decide⟩,
   ⟨inStage .drying, { inRun (inStage .drying) with dyc.run := some (dryRun .ajar) }, dryRun .ajar, by decide⟩,
   ⟨inHold (inStage .hold), by decide⟩,
   ⟨atRest, by decide⟩⟩

theorem test_resumeRestartsTheStage_premises :
    (∃ (a : ActivePhase) (s : State) (d : _) (rest : _),
      (∀ c : Condition, hasCondition s.cdu.causes c → c.cls ≠ .holdAlways ∧ ¬(c.cls = .trappable ∧ hasCondition s.cdu.traps c) ∧
        ¬(c = .hardFill ∧ a.record.softRequired = true)) ∧
      s.wsc.wash = .held ∧ s.cdu.mode = .run ∧ s.wsc.active = some a ∧
      (a.record.kind = .dry ∨ s.doorClass = .closed ∧ s.dru.latched = true) ∧
      (∀ r ∈ s.dsu.live, r.recompute = false ∧ 0 < r.planned) ∧ a.stage = .drain ∧ s.dsu.live = d :: rest) ∧
    (∃ (a : ActivePhase) (s : State),
      (∀ c : Condition, hasCondition s.cdu.causes c → c.cls ≠ .holdAlways ∧ ¬(c.cls = .trappable ∧ hasCondition s.cdu.traps c) ∧
        ¬(c = .hardFill ∧ a.record.softRequired = true)) ∧
      s.wsc.wash = .held ∧ s.cdu.mode = .run ∧ s.wsc.active = some a ∧
      (a.record.kind = .dry ∨ s.doorClass = .closed ∧ s.dru.latched = true) ∧
      (∀ r ∈ s.dsu.live, r.recompute = false ∧ 0 < r.planned) ∧ a.stage = .heat ∧ 1 ≤ a.record.speed ∧
      s.dru.opener = .retracted) ∧
    (∃ (s : State), (s.wsc.wash ≠ .held ∨ s.cdu.mode ≠ .run)) ∧
    (∃ (a : ActivePhase) (s : State),
      s.wsc.active = some a ∧ a.record.kind ≠ .dry ∧ (s.doorClass ≠ .closed ∨ s.dru.latched = false)) ∧
    (∃ (a : ActivePhase) (s : State) (r : _) (b : _),
      (∀ c : Condition, hasCondition s.cdu.causes c → c.cls ≠ .holdAlways ∧ ¬(c.cls = .trappable ∧ hasCondition s.cdu.traps c) ∧
        ¬(c = .hardFill ∧ a.record.softRequired = true)) ∧
      s.wsc.wash = .held ∧ s.cdu.mode = .run ∧ s.wsc.active = some a ∧
      (a.record.kind = .dry ∨ s.doorClass = .closed ∧ s.dru.latched = true) ∧
      (∀ r ∈ s.dsu.live, r.recompute = false ∧ 0 < r.planned) ∧ a.stage = .fill ∧ s.wpu.fillRec = some r ∧
      s.sfu.blend = some b ∧ b.nb = 32 ∧ s.wpu.grant = none ∧ s.wpu.inhibit = false) ∧
    (∃ (a : ActivePhase) (s : State),
      (∀ c : Condition, hasCondition s.cdu.causes c → c.cls ≠ .holdAlways ∧ ¬(c.cls = .trappable ∧ hasCondition s.cdu.traps c) ∧
        ¬(c = .hardFill ∧ a.record.softRequired = true)) ∧
      s.wsc.wash = .held ∧ s.cdu.mode = .run ∧ s.wsc.active = some a ∧
      (a.record.kind = .dry ∨ s.doorClass = .closed ∧ s.dru.latched = true) ∧
      (∀ r ∈ s.dsu.live, r.recompute = false ∧ 0 < r.planned) ∧ a.stage = .fill ∧ s.wpu.fillRec = none ∧ s.wpu.grant = none ∧
      s.wpu.inhibit = false ∧ s.doorClass = .closed ∧ s.dru.latched = true ∧ s.wpu.settings.hRaw ≤ s.wpu.settings.hT) ∧
    (∃ (a : ActivePhase) (s : State),
      (∀ c : Condition, hasCondition s.cdu.causes c → c.cls ≠ .holdAlways ∧ ¬(c.cls = .trappable ∧ hasCondition s.cdu.traps c) ∧
        ¬(c = .hardFill ∧ a.record.softRequired = true)) ∧
      s.wsc.wash = .held ∧ s.cdu.mode = .run ∧ s.wsc.active = some a ∧
      (a.record.kind = .dry ∨ s.doorClass = .closed ∧ s.dru.latched = true) ∧
      (∀ r ∈ s.dsu.live, r.recompute = false ∧ 0 < r.planned) ∧ a.stage = .hold ∧ 1 ≤ a.record.speed ∧
      s.dru.opener = .retracted ∧ (0 < a.holdSec ∧ a.holdEnded = false ∨ a.holdEnded = true ∧ s.dsu.live ≠ []) ∧
      0 < a.holdSec ∧ 0 < a.target ∧ s.hcu.temp < a.target - 50) ∧
    (∃ (a : ActivePhase) (s : State),
      (∀ c : Condition, hasCondition s.cdu.causes c → c.cls ≠ .holdAlways ∧ ¬(c.cls = .trappable ∧ hasCondition s.cdu.traps c) ∧
        ¬(c = .hardFill ∧ a.record.softRequired = true)) ∧
      s.wsc.wash = .held ∧ s.cdu.mode = .run ∧ s.wsc.active = some a ∧
      (a.record.kind = .dry ∨ s.doorClass = .closed ∧ s.dru.latched = true) ∧
      (∀ r ∈ s.dsu.live, r.recompute = false ∧ 0 < r.planned) ∧ a.stage = .hold ∧ 1 ≤ a.record.speed ∧
      s.dru.opener = .retracted ∧ (0 < a.holdSec ∧ a.holdEnded = false ∨ a.holdEnded = true ∧ s.dsu.live ≠ []) ∧
      (a.holdSec = 0 ∨ a.target ≤ 0 ∨ a.target - 50 ≤ s.hcu.temp)) ∧
    (∃ (a : ActivePhase) (s : State),
      (∀ c : Condition, hasCondition s.cdu.causes c → c.cls ≠ .holdAlways ∧ ¬(c.cls = .trappable ∧ hasCondition s.cdu.traps c) ∧
        ¬(c = .hardFill ∧ a.record.softRequired = true)) ∧
      s.wsc.wash = .held ∧ s.cdu.mode = .run ∧ s.wsc.active = some a ∧
      (a.record.kind = .dry ∨ s.doorClass = .closed ∧ s.dru.latched = true) ∧
      (∀ r ∈ s.dsu.live, r.recompute = false ∧ 0 < r.planned) ∧ a.stage = .hold ∧ 1 ≤ a.record.speed ∧
      s.dru.opener = .retracted ∧ (0 < a.holdSec ∧ a.holdEnded = false ∨ a.holdEnded = true ∧ s.dsu.live ≠ []) ∧
      (a.holdSec = 0 ∨ a.target ≤ 0 ∨ a.target - 50 ≤ s.hcu.temp)) ∧
    (∃ (a : ActivePhase) (s : State),
      (∀ c : Condition, hasCondition s.cdu.causes c → c.cls ≠ .holdAlways ∧ ¬(c.cls = .trappable ∧ hasCondition s.cdu.traps c) ∧
        ¬(c = .hardFill ∧ a.record.softRequired = true)) ∧
      s.wsc.wash = .held ∧ s.cdu.mode = .run ∧ s.wsc.active = some a ∧
      (a.record.kind = .dry ∨ s.doorClass = .closed ∧ s.dru.latched = true) ∧
      (∀ r ∈ s.dsu.live, r.recompute = false ∧ 0 < r.planned) ∧ a.stage = .sense ∧ 1 ≤ a.record.speed ∧ a.classDone = false ∧
      s.dru.opener = .retracted) ∧
    (∃ (a : ActivePhase) (s : State) (q : _),
      (∀ c : Condition, hasCondition s.cdu.causes c → c.cls ≠ .holdAlways ∧ ¬(c.cls = .trappable ∧ hasCondition s.cdu.traps c) ∧
        ¬(c = .hardFill ∧ a.record.softRequired = true)) ∧
      (q.state = .cooling ∧ s.doorClass = .closed ∨ q.state = .closedDry ∧ s.doorClass ≠ .open ∨ q.state = .ajar ∧
        s.doorClass = .ajar ∧ s.dru.opener ≠ .extended ∨ q.state = .yielding ∧ s.doorClass = .ajar) ∧
      s.wsc.wash = .held ∧ s.cdu.mode = .run ∧ s.wsc.active = some a ∧
      (a.record.kind = .dry ∨ s.doorClass = .closed ∧ s.dru.latched = true) ∧
      (∀ r ∈ s.dsu.live, r.recompute = false ∧ 0 < r.planned) ∧ a.stage = .drying ∧ s.dyc.run = some q ∧ q.pendingEnd = none ∧
      q.outstanding = none ∧ s.dru.opener ≠ .unknownPosition) ∧
    (∃ (a : ActivePhase) (s : State) (q : _),
      (∀ c : Condition, hasCondition s.cdu.causes c → c.cls ≠ .holdAlways ∧ ¬(c.cls = .trappable ∧ hasCondition s.cdu.traps c) ∧
        ¬(c = .hardFill ∧ a.record.softRequired = true)) ∧
      (q.state = .cooling ∧ s.doorClass = .closed ∨ q.state = .closedDry ∧ s.doorClass ≠ .open ∨ q.state = .ajar ∧
        s.doorClass = .ajar ∧ s.dru.opener ≠ .extended ∨ q.state = .yielding ∧ s.doorClass = .ajar) ∧
      s.wsc.wash = .held ∧ s.cdu.mode = .run ∧ s.wsc.active = some a ∧
      (a.record.kind = .dry ∨ s.doorClass = .closed ∧ s.dru.latched = true) ∧
      (∀ r ∈ s.dsu.live, r.recompute = false ∧ 0 < r.planned) ∧ a.stage = .drying ∧ s.dyc.run = some q ∧ q.pendingEnd = none ∧
      q.outstanding = none ∧ s.dru.opener ≠ .unknownPosition) ∧
    (∃ (a : ActivePhase) (s : State) (q : _),
      (∀ c : Condition, hasCondition s.cdu.causes c → c.cls ≠ .holdAlways ∧ ¬(c.cls = .trappable ∧ hasCondition s.cdu.traps c) ∧
        ¬(c = .hardFill ∧ a.record.softRequired = true)) ∧
      (q.state = .cooling ∧ s.doorClass = .closed ∨ q.state = .closedDry ∧ s.doorClass ≠ .open ∨ q.state = .ajar ∧
        s.doorClass = .ajar ∧ s.dru.opener ≠ .extended ∨ q.state = .yielding ∧ s.doorClass = .ajar) ∧
      s.wsc.wash = .held ∧ s.cdu.mode = .run ∧ s.wsc.active = some a ∧
      (a.record.kind = .dry ∨ s.doorClass = .closed ∧ s.dru.latched = true) ∧
      (∀ r ∈ s.dsu.live, r.recompute = false ∧ 0 < r.planned) ∧ a.stage = .drying ∧ s.dyc.run = some q ∧ q.pendingEnd = none ∧
      q.outstanding = none ∧ s.dru.opener ≠ .unknownPosition) ∧
    (∃ (a : ActivePhase) (s : State) (q : _),
      (∀ c : Condition, hasCondition s.cdu.causes c → c.cls ≠ .holdAlways ∧ ¬(c.cls = .trappable ∧ hasCondition s.cdu.traps c) ∧
        ¬(c = .hardFill ∧ a.record.softRequired = true)) ∧
      (q.state = .cooling ∧ s.doorClass = .closed ∨ q.state = .closedDry ∧ s.doorClass ≠ .open ∨ q.state = .ajar ∧
        s.doorClass = .ajar ∧ s.dru.opener ≠ .extended ∨ q.state = .yielding ∧ s.doorClass = .ajar) ∧
      s.wsc.wash = .held ∧ s.cdu.mode = .run ∧ s.wsc.active = some a ∧
      (a.record.kind = .dry ∨ s.doorClass = .closed ∧ s.dru.latched = true) ∧
      (∀ r ∈ s.dsu.live, r.recompute = false ∧ 0 < r.planned) ∧ a.stage = .drying ∧ s.dyc.run = some q ∧ q.pendingEnd = none ∧
      q.outstanding = none ∧ s.dru.opener ≠ .unknownPosition) ∧
    (∃ (c : Condition) (s : State),
      hasCondition s.cdu.causes c ∧ (c.cls = .holdAlways ∨ c.cls = .trappable ∧ hasCondition s.cdu.traps c)) ∧
    (∃ (a : ActivePhase) (s : State),
      hasCondition s.cdu.causes .hardFill ∧ s.wsc.active = some a ∧ a.record.softRequired = true) :=
  ⟨⟨inStage .drain, { inHold (inStage .drain) with dsu.live := [dose .detergent .suspended 4 0] },
   dose .detergent .suspended 4 0, [], by intro c; cases c <;> decide, by decide⟩,
   ⟨inStage .heat, inHold (inStage .heat), by intro c; cases c <;> decide, by decide⟩,
   ⟨inRun (inStage .heat), by decide⟩,
   ⟨inStage .heat, { inHold (inStage .heat) with dru.latched := false }, by decide⟩,
   ⟨inStage .fill, { inHold (inStage .fill) with wpu.fillRec := some (fillOf 40 0), sfu.blend := some bypassing }, fillOf 40 0,
   bypassing, by intro c; cases c <;> decide, by decide⟩,
   ⟨inStage .fill, { inHold (inStage .fill) with wpu.settings.hRaw := 40 }, by intro c; cases c <;> decide, by decide⟩,
   ⟨inStage .hold, { inHold (inStage .hold) with hcu.temp := 499 }, by intro c; cases c <;> decide, by decide⟩,
   ⟨inStage .hold, { inHold (inStage .hold) with hcu.temp := 500 }, by intro c; cases c <;> decide, by decide⟩,
   ⟨{ inStage .hold with holdSec := 0, holdEnded := true },
   { inHold { inStage .hold with holdSec := 0, holdEnded := true } with dsu.live := [dose .rinseAid .suspended 4 0] },
   by intro c; cases c <;> decide, by decide⟩,
   ⟨inStage .sense, inHold (inStage .sense), by intro c; cases c <;> decide, by decide⟩,
   ⟨{ inStage .drying with record := dryPhase },
   { inHold { inStage .drying with record := dryPhase } with
     dyc.run := some { dryRun .cooling with suspended := true, fanDemand := false } },
   { dryRun .cooling with suspended := true, fanDemand := false }, by intro c; cases c <;> decide, Or.inl (by decide),
   by decide⟩,
   ⟨{ inStage .drying with record := dryPhase },
   { inHold { inStage .drying with record := dryPhase } with
     dyc.run := some { dryRun .closedDry with suspended := true, fanDemand := false } },
   { dryRun .closedDry with suspended := true, fanDemand := false }, by intro c; cases c <;> decide,
   Or.inr (Or.inl (by decide)), by decide⟩,
   ⟨{ inStage .drying with record := dryPhase },
   { inHold { inStage .drying with record := dryPhase } with
     dyc.run := some { dryRun .ajar with suspended := true, fanDemand := false }, dru.doorClosed := false, dru.referenced := true,
     dru.angle := 100 },
   { dryRun .ajar with suspended := true, fanDemand := false }, by intro c; cases c <;> decide,
   Or.inr (Or.inr (Or.inl (by decide))), by decide⟩,
   ⟨{ inStage .drying with record := dryPhase },
   { inHold { inStage .drying with record := dryPhase } with
     dyc.run := some { dryRun .yielding with suspended := true, fanDemand := false }, dru.doorClosed := false,
     dru.referenced := true, dru.angle := 100 },
   { dryRun .yielding with suspended := true, fanDemand := false }, by intro c; cases c <;> decide,
   Or.inr (Or.inr (Or.inr (by decide))), by decide⟩,
   ⟨.noWater, { inHold (inStage .fill) with cdu.causes := 8 }, by decide⟩,
   ⟨{ inStage .fill with record := { mainPhase with softRequired := true } },
   { inHold { inStage .fill with record := { mainPhase with softRequired := true } } with cdu.causes := Condition.hardFill.mask },
   by decide⟩⟩

theorem test_abortGivesTheProgramUp_premises :
    (∃ (s : State) (x : _), s.cdu.mode = .run ∧ s.wpu.fillRec = none ∧ s.wsc.ctx = some x ∧ s.wpu.waterPresent = false) ∧
    (∃ (s : State) (r : _) (x : _),
      s.cdu.mode = .run ∧ s.wpu.fillRec = some r ∧ s.wsc.ctx = some x ∧ x.total + r.pulses * 1000 / r.k < 4294967296 ∧
      s.wpu.waterPresent = true) ∧
    (∃ (s : State) (r : _), s.cdu.mode = .run ∧ s.dyc.run = some r ∧ r.state = .ended) ∧
    (∃ (s : State) (a : _), s.cdu.mode = .run ∧ s.wsc.active = some a ∧ a.stage ≠ .drying) ∧
    (∃ (s : State) (a : _) (r : _),
      s.cdu.mode = .run ∧ s.wsc.active = some a ∧ a.stage = .drying ∧ s.dyc.run = some r ∧ r.state ≠ .ended ∧
      r.outstanding = some ⟨.extend, true⟩ ∧ s.dru.opener ≠ .extended) ∧
    (∃ (s : State) (a : _) (r : _),
      s.cdu.mode = .run ∧ s.wsc.active = some a ∧ a.stage = .drying ∧ s.dyc.run = some r ∧ r.state ≠ .ended ∧
      r.outstanding ≠ some ⟨.extend, true⟩ ∧ s.dru.opener = .extended ∧ s.dru.endRetracted = false) ∧
    (∃ (s : State) (a : _) (r : _),
      s.cdu.mode = .run ∧ s.wsc.active = some a ∧ a.stage = .drying ∧ s.dyc.run = some r ∧ r.state ≠ .ended ∧
      r.outstanding ≠ some ⟨.extend, true⟩ ∧ s.dru.opener = .extended ∧ s.dru.endRetracted = true) ∧
    (∃ (s : State), s.cdu.mode ≠ .run) :=
  ⟨⟨inRun (inStage .hold), ⟨none, false, 0⟩, by decide⟩,
   ⟨{ filling (fillOf 700 0) bypassing with wpu.waterPresent := true }, fillOf 700 0, ⟨none, false, 0⟩, by decide⟩,
   ⟨{ inRun (inStage .heat) with dyc.run := some (dryRun .ended) }, dryRun .ended, by decide⟩,
   ⟨inRun (inStage .heat), inStage .heat, by decide⟩,
   ⟨{ inRun { inStage .drying with record := dryPhase } with
     dyc.run := some { dryRun .opening with outstanding := some ⟨.extend, true⟩ }, dru.opener := .extending,
     dru.phase := some .driving, dru.issuer := .dry, dru.commanded := .extend, dru.endRetracted := false },
   { inStage .drying with record := dryPhase }, { dryRun .opening with outstanding := some ⟨.extend, true⟩ }, by decide⟩,
   ⟨{ inRun { inStage .drying with record := dryPhase } with
     dyc.run := some (dryRun .ajar), dru.opener := .extended, dru.endRetracted := false },
   { inStage .drying with record := dryPhase }, dryRun .ajar, by decide⟩,
   ⟨{ inRun { inStage .drying with record := dryPhase } with dyc.run := some (dryRun .ajar), dru.opener := .extended },
   { inStage .drying with record := dryPhase }, dryRun .ajar, by decide⟩,
   ⟨inMode .service, by decide⟩⟩

theorem test_heldContextIsEdited_premises :
    (∃ (op : Nat) (value : Nat), (2 < op ∨ op = 0 ∧ 3600 < value ∨ op = 1 ∧ 2 < value ∨ op = 2 ∧ value ≠ 0)) ∧
    (∃ (op : Nat) (value : Nat), (2 < op ∨ op = 0 ∧ 3600 < value ∨ op = 1 ∧ 2 < value ∨ op = 2 ∧ value ≠ 0)) ∧
    (∃ (op : Nat) (value : Nat) (s : State),
      (s.wsc.wash ≠ .held ∨ s.wsc.active = none ∨ (∃ a, s.wsc.active = some a ∧ a.record.kind.isWater = false) ∨ op ≠ 2 ∧
        (∃ a, s.wsc.active = some a ∧ a.stage = .drain)) ∧
      (op = 0 ∧ value ≤ 3600 ∨ op = 1 ∧ value ≤ 2 ∨ op = 2 ∧ value = 0)) ∧
    (∃ (op : Nat) (value : Nat) (s : State),
      (s.wsc.wash ≠ .held ∨ s.wsc.active = none ∨ (∃ a, s.wsc.active = some a ∧ a.record.kind.isWater = false) ∨ op ≠ 2 ∧
        (∃ a, s.wsc.active = some a ∧ a.stage = .drain)) ∧
      (op = 0 ∧ value ≤ 3600 ∨ op = 1 ∧ value ≤ 2 ∨ op = 2 ∧ value = 0)) ∧
    (∃ (a : ActivePhase) (value : Nat) (s : State),
      s.wsc.wash = .held ∧ s.wsc.active = some a ∧ a.record.kind.isWater = true ∧ a.stage ≠ .drain ∧ value ≤ 3600) ∧
    (∃ (a : ActivePhase) (g : Agent) (r : DoseRecord) (s : State),
      s.wsc.wash = .held ∧ s.wsc.active = some a ∧ a.record.kind.isWater = true ∧ a.stage ≠ .drain ∧ s.dsu.live = [r] ∧
      r.agent = g ∧ r.phaseId = a.record.id) ∧
    (∃ (a : ActivePhase) (s : State) (r : _),
      s.wsc.wash = .held ∧ s.wsc.active = some a ∧ a.record.kind.isWater = true ∧ a.stage ≠ .drain ∧ s.wpu.fillRec = some r) ∧
    (∃ (a : ActivePhase) (s : State),
      s.wsc.wash = .held ∧ s.wsc.active = some a ∧ a.record.kind.isWater = true ∧ a.stage = .drain) ∧
    (∃ (a : ActivePhase) (g : Agent) (s : State),
      s.wsc.wash = .held ∧ s.wsc.active = some a ∧ a.record.kind.isWater = true ∧ a.stage ≠ .drain ∧
      (∀ r ∈ s.dsu.live ++ s.dsu.ended, r.agent ≠ g ∨ r.phaseId ≠ a.record.id)) ∧
    (∃ (a : ActivePhase) (g : Agent) (s : State),
      s.wsc.wash = .held ∧ s.wsc.active = some a ∧ a.record.kind.isWater = true ∧ a.stage ≠ .drain ∧
      (∀ r ∈ s.dsu.live, r.agent ≠ g) ∧ (s.dsu.ended.any (fun r => decide (r.agent = g ∧ r.phaseId = a.record.id)) = true)) :=
  ⟨⟨0, 3601, by decide⟩,
   ⟨3, 0, by decide⟩,
   ⟨0, 3600, inRun (inStage .hold), Or.inl (by decide), by decide⟩,
   ⟨1, 2, inHold (inStage .drain), Or.inr (Or.inr (Or.inr ⟨by decide, _, rfl, rfl⟩)), by decide⟩,
   ⟨inStage .hold, 3600, inHold (inStage .hold), by decide⟩,
   ⟨inStage .hold, .rinseAid, dose .rinseAid .suspended 4 0,
   { inHold (inStage .hold) with dsu.live := [dose .rinseAid .suspended 4 0] }, by decide⟩,
   ⟨inStage .fill, { inHold (inStage .fill) with wpu.fillRec := some (fillOf 40 0) }, fillOf 40 0, by decide⟩,
   ⟨inStage .drain, inHold (inStage .drain), by decide⟩,
   ⟨inStage .hold, .additive, { inHold (inStage .hold) with dsu.live := [dose .rinseAid .suspended 4 0] }, by decide⟩,
   ⟨inStage .hold, .detergent,
   { inHold (inStage .hold) with dsu.live := [dose .rinseAid .suspended 4 0], dsu.ended := [dose .detergent .short 4 0] },
   by decide⟩⟩

theorem test_regenerationIsSetAndAsked_premises :
    (∃ (window : Nat) (automatic : Nat) (s : State),
      window ≤ 1 ∧ automatic ≤ 1 ∧ (automatic = 0 ∨ s.sfu.settings.automatic = true)) ∧
    (∃ (window : Nat) (automatic : Nat) (s : State) (c : _),
      window ≤ 1 ∧ automatic ≤ 1 ∧ automatic = 1 ∧ s.sfu.settings.automatic = false ∧ (s.col c).state = .exhausted) ∧
    (∃ (window : Nat) (automatic : Nat), (1 < window ∨ 1 < automatic)) ∧
    (∃ (n : Nat), 1 < n) ∧
    (∃ (c : Column) (s : State), ((s.col c).state = .inService ∨ (s.col c).state = .held)) ∧
    (∃ (c : Column) (s : State),
      ((s.col c).state = .regenerating ∨ ((s.col c).state = .fresh ∨ (s.col c).state = .exhausted) ∧ s.listed c = true)) ∧
    (∃ (c : Column) (s : State),
      (∀ q, s.sfu.run = some q → q.outcome ≠ none) ∧ ((s.col c).state = .fresh ∨ (s.col c).state = .exhausted) ∧
      s.sfu.list = [] ∧ s.cdu.mode ≠ .safe ∧ s.sfu.settings.window = .quiet ∧ s.windowOpen .quiet = false) ∧
    (∃ (c : Column) (s : State),
      (∀ q, s.sfu.run = some q → q.outcome ≠ none) ∧ ((s.col c).state = .fresh ∨ (s.col c).state = .exhausted) ∧
      s.sfu.list = [] ∧ s.cdu.mode ≠ .safe ∧ s.sfu.settings.window = .anytime ∧ s.wpu.inhibit = false ∧ s.wpu.grant = none ∧
      s.spt.salt.state ≠ .empty) ∧
    (∃ (c : Column) (s : State),
      (∀ q, s.sfu.run = some q → q.outcome ≠ none) ∧ ((s.col c).state = .fresh ∨ (s.col c).state = .exhausted) ∧
      s.sfu.list = [] ∧ s.cdu.mode ≠ .safe ∧ s.sfu.settings.window = .anytime ∧ s.wpu.inhibit = false ∧ s.wpu.grant = none ∧
      s.spt.salt.state = .empty) ∧
    (∃ (c : Column) (s : State),
      (∀ q, s.sfu.run = some q → q.outcome ≠ none) ∧ ((s.col c).state = .fresh ∨ (s.col c).state = .exhausted) ∧
      s.sfu.list = [] ∧ s.cdu.mode ≠ .safe ∧ s.sfu.settings.window = .anytime ∧ s.wpu.inhibit = false ∧ s.wpu.grant = none ∧
      s.spt.salt.state ≠ .empty) ∧
    (∃ (c : Column) (e : RegenEntry) (s : State) (q : _),
      ((s.col c).state = .fresh ∨ (s.col c).state = .exhausted) ∧ s.sfu.list = [e] ∧ e.column = c.other ∧ s.sfu.run = some q ∧
      q.outcome = none) ∧
    (∃ (c : Column) (e : RegenEntry) (s : State),
      ((s.col c).state = .fresh ∨ (s.col c).state = .exhausted) ∧ s.sfu.list = [e] ∧ e.column = c.other ∧ s.cdu.mode = .safe) ∧
    (∃ (c : Column) (s : State),
      ((s.col c).state = .fresh ∨ (s.col c).state = .exhausted) ∧ s.sfu.list = [] ∧ s.cdu.mode = .safe) ∧
    (∃ (window : Nat) (s : State),
      (∀ q, s.sfu.run = some q → q.outcome ≠ none) ∧ window ≤ 1 ∧ s.sfu.settings.automatic = false ∧ s.sfu.list = [] ∧
      s.cdu.mode ≠ .safe ∧ s.wpu.inhibit = false ∧ s.sfu.colA.state = .exhausted ∧ s.sfu.colB.state = .exhausted) ∧
    (∃ (window : Nat) (s : State) (c : Column),
      (∀ q, s.sfu.run = some q → q.outcome ≠ none) ∧ window ≤ 1 ∧ s.sfu.settings.automatic = false ∧ s.sfu.list = [] ∧
      s.cdu.mode ≠ .safe ∧ s.wpu.inhibit = false ∧ (s.col c).state = .exhausted ∧ (s.col c.other).state ≠ .exhausted) :=
  ⟨⟨1, 0, atRest, by decide⟩,
   ⟨1, 1, { atRest with sfu.settings.automatic := false, sfu.colA.state := .exhausted }, .a, by decide⟩,
   ⟨2, 0, by decide⟩,
   ⟨2, by decide⟩,
   ⟨.b, { atRest with sfu.colB.state := .held }, by decide⟩,
   ⟨.a, regenerating (.running .brine), by decide⟩,
   ⟨.a, { inMode .service with sfu.settings.window := .quiet }, by rintro _ ⟨⟩, by decide⟩,
   ⟨.b, atRest, by rintro _ ⟨⟩, by decide⟩,
   ⟨.b, { atRest with spt.salt.tracked := true }, by rintro _ ⟨⟩, by decide⟩,
   ⟨.b, { atRest with sfu.run := some { runIn .done with outcome := some .done } }, by rintro _ ⟨⟩; decide, by decide⟩,
   ⟨.b, ⟨.a, false⟩, regenerating (.running .brine), runIn (.running .brine), by decide⟩,
   ⟨.b, ⟨.a, true⟩, { inSafe with sfu.list := [⟨.a, true⟩] }, by decide⟩,
   ⟨.b, inSafe, by decide⟩,
   ⟨1, { atRest with sfu.settings.automatic := false, sfu.colA.state := .exhausted, sfu.colB.state := .exhausted },
   by rintro _ ⟨⟩, by decide⟩,
   ⟨1, { atRest with sfu.settings.automatic := false, sfu.colB.state := .exhausted }, .b, by rintro _ ⟨⟩, by decide⟩⟩

theorem test_openerTakesCommands_premises :
    (∃ (n : Nat), 1 < n) ∧
    (∃ (n : Nat) (s : State), n ≤ 1 ∧ (s.dru.opener = .extending ∨ s.dru.opener = .retracting)) ∧
    (∃ (n : Nat) (s : State),
      (s.cdu.mode = .safe ∨ s.cdu.mode = .service ∨ s.dru.dryHold = true ∨ (n = 0 ↔ s.dru.opener = .retracted) ∨ n = 1 ∧
        (s.hcu.heat ≠ none ∨ s.hcu.energised = true ∨ s.hcu.demand ≠ none ∨ s.hcu.pumpRuns = true ∨ ∃ a, s.wsc.active = some a ∧
          a.stage.isWet = true)) ∧
      n ≤ 1 ∧ s.dru.opener ≠ .extending ∧ s.dru.opener ≠ .retracting) ∧
    (∃ (n : Nat) (s : State),
      (s.cdu.mode = .safe ∨ s.cdu.mode = .service ∨ s.dru.dryHold = true ∨ (n = 0 ↔ s.dru.opener = .retracted) ∨ n = 1 ∧
        (s.hcu.heat ≠ none ∨ s.hcu.energised = true ∨ s.hcu.demand ≠ none ∨ s.hcu.pumpRuns = true ∨ ∃ a, s.wsc.active = some a ∧
          a.stage.isWet = true)) ∧
      n ≤ 1 ∧ s.dru.opener ≠ .extending ∧ s.dru.opener ≠ .retracting) ∧
    (∃ (n : Nat) (s : State),
      (s.cdu.mode = .safe ∨ s.cdu.mode = .service ∨ s.dru.dryHold = true ∨ (n = 0 ↔ s.dru.opener = .retracted) ∨ n = 1 ∧
        (s.hcu.heat ≠ none ∨ s.hcu.energised = true ∨ s.hcu.demand ≠ none ∨ s.hcu.pumpRuns = true ∨ ∃ a, s.wsc.active = some a ∧
          a.stage.isWet = true)) ∧
      n ≤ 1 ∧ s.dru.opener ≠ .extending ∧ s.dru.opener ≠ .retracting) ∧
    (∃ (s : State),
      (∀ a, s.wsc.active = some a → a.stage.isWet = false) ∧ (s.cdu.mode = .standby ∨ s.cdu.mode = .run) ∧
      s.dru.dryHold = false ∧ s.dru.opener = .retracted ∧ s.hcu.heat = none ∧ s.hcu.energised = false ∧ s.hcu.demand = none ∧
      s.hcu.pumpRuns = false ∧ s.dru.latched = true) ∧
    (∃ (s : State),
      (∀ a, s.wsc.active = some a → a.stage.isWet = false) ∧ (s.cdu.mode = .standby ∨ s.cdu.mode = .run) ∧
      s.dru.dryHold = false ∧ s.dru.opener = .retracted ∧ s.hcu.heat = none ∧ s.hcu.energised = false ∧ s.hcu.demand = none ∧
      s.hcu.pumpRuns = false ∧ s.dru.latched = false ∧ s.dru.endExtended = false) ∧
    (∃ (s : State),
      (∀ a, s.wsc.active = some a → a.stage.isWet = false) ∧ (s.cdu.mode = .standby ∨ s.cdu.mode = .run) ∧
      s.dru.dryHold = false ∧ s.dru.opener = .retracted ∧ s.hcu.heat = none ∧ s.hcu.energised = false ∧ s.hcu.demand = none ∧
      s.hcu.pumpRuns = false ∧ s.dru.latched = false ∧ s.dru.endExtended = true) ∧
    (∃ (s : State),
      (s.cdu.mode = .standby ∨ s.cdu.mode = .run) ∧ s.dru.dryHold = false ∧
      (s.dru.opener = .extended ∨ s.dru.opener = .fault ∨ s.dru.opener = .unknownPosition) ∧ s.dru.endRetracted = false) ∧
    (∃ (s : State),
      (s.cdu.mode = .standby ∨ s.cdu.mode = .run) ∧ s.dru.dryHold = false ∧
      (s.dru.opener = .extended ∨ s.dru.opener = .fault ∨ s.dru.opener = .unknownPosition) ∧ s.dru.endRetracted = true) :=
  ⟨⟨2, by decide⟩,
   ⟨1, moving .extending .releasing .host, by decide⟩,
   ⟨1, inSafe, Or.inl rfl, by decide⟩,
   ⟨0, atRest, Or.inr (Or.inr (Or.inr (Or.inl (by decide)))), by decide⟩,
   ⟨1, inRun (inStage .hold), Or.inr (Or.inr (Or.inr (Or.inr ⟨rfl, Or.inr (Or.inr (Or.inr (Or.inr ⟨_, rfl, rfl⟩)))⟩))),
   by decide⟩,
   ⟨inRun (inStage .drying), by rintro _ ⟨⟩; decide, by decide⟩,
   ⟨{ atRest with dru.latched := false }, by rintro _ ⟨⟩, by decide⟩,
   ⟨{ atRest with dru.latched := false, dru.endExtended := true }, by rintro _ ⟨⟩, by decide⟩,
   ⟨{ atRest with dru.opener := .extended, dru.endRetracted := false }, by decide⟩,
   ⟨{ atRest with dru.opener := .fault }, by decide⟩⟩

theorem test_serviceIsEnteredAndLeft_premises :
    (∃ (s : State), s.cdu.mode = .standby ∧ s.wsc.abortDrain = false) ∧
    (∃ (s : State), (s.cdu.mode ≠ .standby ∨ s.wsc.abortDrain = true)) ∧
    (∃ (s : State) (a : _),
      s.cdu.mode = .service ∧ (s.testEntry a).running = true ∧ s.testing .inlet = true ∧ s.testing .drainPump = true ∧
      s.testing .heater = true) ∧
    (∃ (s : State) (a : _), s.cdu.mode = .service ∧ (s.testEntry a).running = false ∧ a ≠ .opener) ∧
    (∃ (s : State), s.cdu.mode ≠ .service) :=
  ⟨⟨atRest, by decide⟩,
   ⟨{ atRest with wsc.abortDrain := true }, by decide⟩,
   ⟨testing [.inlet, .drainPump, .circPump, .heater], .inlet, by decide⟩,
   ⟨testing [], .fan, by decide⟩,
   ⟨atRest, by decide⟩⟩

theorem test_testStartsItsActuator_premises :
    (∃ (s : State), s.cdu.mode ≠ .service) ∧
    (∃ (n : Nat) (amount : Nat) (s : State), s.cdu.mode = .service ∧ (9 < n ∨ n = 9 ∧ 1 < amount)) ∧
    (∃ (n : Nat) (amount : Nat) (s : State), s.cdu.mode = .service ∧ (9 < n ∨ n = 9 ∧ 1 < amount)) ∧
    (∃ (a : Actuator) (amount : Nat) (s : State),
      (s.testing a = true ∨ (a.agent ≠ none ∧ ∃ b : Actuator, b.agent ≠ none ∧ s.testing b = true)) ∧ s.cdu.mode = .service ∧
      (a = .opener → amount ≤ 1)) ∧
    (∃ (a : Actuator) (amount : Nat) (s : State),
      (s.testing a = true ∨ (a.agent ≠ none ∧ ∃ b : Actuator, b.agent ≠ none ∧ s.testing b = true)) ∧ s.cdu.mode = .service ∧
      (a = .opener → amount ≤ 1)) ∧
    (∃ (a : Actuator) (s : State),
      s.cdu.mode = .service ∧ s.testing a = false ∧ (a = .circPump ∨ a = .heater) ∧
      (s.wpu.waterPresent = false ∨ s.dru.opener ≠ .retracted ∨ a = .heater ∧ (s.testing .circPump = false ∨ s.doorClass ≠ .closed ∨
        s.dru.latched = false))) ∧
    (∃ (a : Actuator) (s : State) (b : _),
      (a.agent ≠ none → ∀ b : Actuator, b.agent ≠ none → s.testing b = false) ∧ s.cdu.mode = .service ∧ a ≠ .opener ∧
      s.testing a = false ∧ (a = .circPump → s.wpu.waterPresent = true ∧ s.dru.opener = .retracted) ∧
      (a = .heater → s.testing .circPump = true ∧ s.wpu.waterPresent = true ∧ s.doorClass = .closed ∧ s.dru.latched = true ∧
        s.dru.opener = .retracted) ∧
      a ≠ .diverter ∧ b ≠ a ∧ a = .inlet ∧ s.wpu.inhibit = false ∧ s.wpu.grant = none) ∧
    (∃ (a : Actuator) (s : State),
      (a.agent ≠ none → ∀ b : Actuator, b.agent ≠ none → s.testing b = false) ∧ s.cdu.mode = .service ∧ a ≠ .opener ∧
      s.testing a = false ∧ (a = .circPump → s.wpu.waterPresent = true ∧ s.dru.opener = .retracted) ∧
      (a = .heater → s.testing .circPump = true ∧ s.wpu.waterPresent = true ∧ s.doorClass = .closed ∧ s.dru.latched = true ∧
        s.dru.opener = .retracted) ∧
      a = .inlet ∧ s.wpu.inhibit = false ∧ (s.wpu.grant = some .fill ∨ s.wpu.grant = some .regen)) ∧
    (∃ (a : Actuator) (s : State),
      (a.agent ≠ none → ∀ b : Actuator, b.agent ≠ none → s.testing b = false) ∧ s.cdu.mode = .service ∧ a ≠ .opener ∧
      s.testing a = false ∧ (a = .circPump → s.wpu.waterPresent = true ∧ s.dru.opener = .retracted) ∧
      (a = .heater → s.testing .circPump = true ∧ s.wpu.waterPresent = true ∧ s.doorClass = .closed ∧ s.dru.latched = true ∧
        s.dru.opener = .retracted) ∧
      a = .drainPump) ∧
    (∃ (a : Actuator) (s : State),
      (a.agent ≠ none → ∀ b : Actuator, b.agent ≠ none → s.testing b = false) ∧ s.cdu.mode = .service ∧ a ≠ .opener ∧
      s.testing a = false ∧ (a = .circPump → s.wpu.waterPresent = true ∧ s.dru.opener = .retracted) ∧
      (a = .heater → s.testing .circPump = true ∧ s.wpu.waterPresent = true ∧ s.doorClass = .closed ∧ s.dru.latched = true ∧
        s.dru.opener = .retracted) ∧
      a = .circPump ∧ s.hcu.demand = none) ∧
    (∃ (a : Actuator) (s : State),
      (a.agent ≠ none → ∀ b : Actuator, b.agent ≠ none → s.testing b = false) ∧ s.cdu.mode = .service ∧ a ≠ .opener ∧
      s.testing a = false ∧ (a = .circPump → s.wpu.waterPresent = true ∧ s.dru.opener = .retracted) ∧
      (a = .heater → s.testing .circPump = true ∧ s.wpu.waterPresent = true ∧ s.doorClass = .closed ∧ s.dru.latched = true ∧
        s.dru.opener = .retracted) ∧
      a = .heater ∧ 0 ≤ s.hcu.temp ∧ s.hcu.temp ≤ 990) ∧
    (∃ (a : Actuator) (s : State),
      (a.agent ≠ none → ∀ b : Actuator, b.agent ≠ none → s.testing b = false) ∧ s.cdu.mode = .service ∧ a ≠ .opener ∧
      s.testing a = false ∧ (a = .circPump → s.wpu.waterPresent = true ∧ s.dru.opener = .retracted) ∧
      (a = .heater → s.testing .circPump = true ∧ s.wpu.waterPresent = true ∧ s.doorClass = .closed ∧ s.dru.latched = true ∧
        s.dru.opener = .retracted)) ∧
    (∃ (a : Actuator) (s : State) (g : _),
      (a.agent ≠ none → ∀ b : Actuator, b.agent ≠ none → s.testing b = false) ∧ s.cdu.mode = .service ∧ a ≠ .opener ∧
      s.testing a = false ∧ (a = .circPump → s.wpu.waterPresent = true ∧ s.dru.opener = .retracted) ∧
      (a = .heater → s.testing .circPump = true ∧ s.wpu.waterPresent = true ∧ s.doorClass = .closed ∧ s.dru.latched = true ∧
        s.dru.opener = .retracted) ∧
      a.agent = some g) ∧
    (∃ (a : Actuator) (s : State),
      (a.agent ≠ none → ∀ b : Actuator, b.agent ≠ none → s.testing b = false) ∧ s.cdu.mode = .service ∧ a ≠ .opener ∧
      s.testing a = false ∧ (a = .circPump → s.wpu.waterPresent = true ∧ s.dru.opener = .retracted) ∧
      (a = .heater → s.testing .circPump = true ∧ s.wpu.waterPresent = true ∧ s.doorClass = .closed ∧ s.dru.latched = true ∧
        s.dru.opener = .retracted) ∧
      a = .fan) ∧
    (∃ (s : State),
      s.cdu.mode = .service ∧ s.testing .opener = false ∧ (s.dru.opener = .extended ∨ s.dru.opener = .unknownPosition) ∧
      s.dru.endRetracted = false) :=
  ⟨⟨atRest, by decide⟩,
   ⟨10, 1, testing [], by decide⟩,
   ⟨9, 2, testing [], by decide⟩,
   ⟨.fan, 1, testing [.fan], Or.inl (by decide), by decide⟩,
   ⟨.rinsePump, 1, testing [.detergentPump], Or.inr ⟨by decide, .detergentPump, by decide, by decide⟩, by decide⟩,
   ⟨.heater, testing [], by decide⟩,
   ⟨.inlet, testing [.fan], .fan, by intro _ b; cases b <;> decide, by decide⟩,
   ⟨.inlet, { testing [] with wpu.grant := some .regen }, by intro _ b; cases b <;> decide, by decide⟩,
   ⟨.drainPump, testing [], by intro _ b; cases b <;> decide, by decide⟩,
   ⟨.circPump, testing [], by intro _ b; cases b <;> decide, by decide⟩,
   ⟨.heater, { testing [.circPump] with hcu.temp := 990 }, by intro _ b; cases b <;> decide, by decide⟩,
   ⟨.diverter, testing [], by intro _ b; cases b <;> decide, by decide⟩,
   ⟨.additivePump, testing [], .additive, by intro _ b; cases b <;> decide, by decide⟩,
   ⟨.fan, testing [], by intro _ b; cases b <;> decide, by decide⟩,
   ⟨{ testing [] with dru.opener := .extended, dru.endRetracted := false }, by decide⟩⟩

theorem test_safeStopsTheWetSide_premises :
    (∃ (cmd : Instr) (c : Condition) (s : State),
      ((cmd = .overfillSwitchChange true ∧ s.wpu.overfillClosed = false ∧ c = .overfill) ∨ (cmd = .leakFloatChange true ∧
        s.wpu.leakWet = false ∧ c = .leak) ∨ (cmd = .supervisionTimerExpiry ∧ (∃ n, s.lkp.supervision = some n ∧ 2500 ≤ n) ∧
          c = .linkLost) ∨ (cmd = .dryCountExpiry ∧ (∃ n, s.hcu.dry = .counting n ∧ 2000 ≤ n) ∧ c = .heaterDry) ∨
            (∃ a b, cmd = .flowPulse a b ∧ s.wpu.grant = none ∧ s.wpu.window = 40 ∧ c = .inletLeak) ∨
              (∃ r, cmd = .temperatureSample r ∧ 850 ≤ r ∧ r ≤ 990 ∧ s.hcu.noSample = false ∧ 0 ≤ s.hcu.temp ∧ s.hcu.temp < 850 ∧
                c = .overtemp) ∨ (∃ r, cmd = .temperatureSample r ∧ (r < 0 ∨ 990 < r) ∧ s.hcu.noSample = false ∧ 0 ≤ s.hcu.temp ∧
                  s.hcu.temp ≤ 990 ∧ c = .sensorFault)) ∧
      s.cdu.mode ≠ .safe ∧ s.cdu.mode = .run ∧ s.wsc.wash = .running ∧ s.wsc.active ≠ none) ∧
    (∃ (cmd : Instr) (c : Condition) (s : State),
      ((cmd = .overfillSwitchChange true ∧ s.wpu.overfillClosed = false ∧ c = .overfill) ∨ (cmd = .leakFloatChange true ∧
        s.wpu.leakWet = false ∧ c = .leak) ∨ (cmd = .supervisionTimerExpiry ∧ (∃ n, s.lkp.supervision = some n ∧ 2500 ≤ n) ∧
          c = .linkLost) ∨ (cmd = .dryCountExpiry ∧ (∃ n, s.hcu.dry = .counting n ∧ 2000 ≤ n) ∧ c = .heaterDry) ∨
            (∃ a b, cmd = .flowPulse a b ∧ s.wpu.grant = none ∧ s.wpu.window = 40 ∧ c = .inletLeak) ∨
              (∃ r, cmd = .temperatureSample r ∧ 850 ≤ r ∧ r ≤ 990 ∧ s.hcu.noSample = false ∧ 0 ≤ s.hcu.temp ∧ s.hcu.temp < 850 ∧
                c = .overtemp) ∨ (∃ r, cmd = .temperatureSample r ∧ (r < 0 ∨ 990 < r) ∧ s.hcu.noSample = false ∧ 0 ≤ s.hcu.temp ∧
                  s.hcu.temp ≤ 990 ∧ c = .sensorFault)) ∧
      s.cdu.mode ≠ .safe ∧ s.wsc.wash ≠ .running ∧ s.openerMoves = true) ∧
    (∃ (cmd : Instr) (c : Condition) (s : State) (a : _),
      ((cmd = .overfillSwitchChange true ∧ s.wpu.overfillClosed = false ∧ c = .overfill) ∨ (cmd = .leakFloatChange true ∧
        s.wpu.leakWet = false ∧ c = .leak) ∨ (cmd = .supervisionTimerExpiry ∧ (∃ n, s.lkp.supervision = some n ∧ 2500 ≤ n) ∧
          c = .linkLost) ∨ (cmd = .dryCountExpiry ∧ (∃ n, s.hcu.dry = .counting n ∧ 2000 ≤ n) ∧ c = .heaterDry) ∨
            (∃ a b, cmd = .flowPulse a b ∧ s.wpu.grant = none ∧ s.wpu.window = 40 ∧ c = .inletLeak) ∨
              (∃ r, cmd = .temperatureSample r ∧ 850 ≤ r ∧ r ≤ 990 ∧ s.hcu.noSample = false ∧ 0 ≤ s.hcu.temp ∧ s.hcu.temp < 850 ∧
                c = .overtemp) ∨ (∃ r, cmd = .temperatureSample r ∧ (r < 0 ∨ 990 < r) ∧ s.hcu.noSample = false ∧ 0 ≤ s.hcu.temp ∧
                  s.hcu.temp ≤ 990 ∧ c = .sensorFault)) ∧
      s.cdu.mode ≠ .safe ∧ (s.testEntry a).running = true ∧ s.openerMoves = false) ∧
    (∃ (cmd : Instr) (c : Condition) (s : State) (a : _),
      ((cmd = .overfillSwitchChange true ∧ s.wpu.overfillClosed = false ∧ c = .overfill) ∨ (cmd = .leakFloatChange true ∧
        s.wpu.leakWet = false ∧ c = .leak) ∨ (cmd = .supervisionTimerExpiry ∧ (∃ n, s.lkp.supervision = some n ∧ 2500 ≤ n) ∧
          c = .linkLost) ∨ (cmd = .dryCountExpiry ∧ (∃ n, s.hcu.dry = .counting n ∧ 2000 ≤ n) ∧ c = .heaterDry) ∨
            (∃ a b, cmd = .flowPulse a b ∧ s.wpu.grant = none ∧ s.wpu.window = 40 ∧ c = .inletLeak) ∨
              (∃ r, cmd = .temperatureSample r ∧ 850 ≤ r ∧ r ≤ 990 ∧ s.hcu.noSample = false ∧ 0 ≤ s.hcu.temp ∧ s.hcu.temp < 850 ∧
                c = .overtemp) ∨ (∃ r, cmd = .temperatureSample r ∧ (r < 0 ∨ 990 < r) ∧ s.hcu.noSample = false ∧ 0 ≤ s.hcu.temp ∧
                  s.hcu.temp ≤ 990 ∧ c = .sensorFault)) ∧
      s.cdu.mode ≠ .safe ∧ (s.testEntry a).running = true) ∧
    (∃ (cmd : Instr) (c : Condition) (s : State),
      ((cmd = .overfillSwitchChange true ∧ s.wpu.overfillClosed = false ∧ c = .overfill) ∨ (cmd = .leakFloatChange true ∧
        s.wpu.leakWet = false ∧ c = .leak) ∨ (cmd = .supervisionTimerExpiry ∧ (∃ n, s.lkp.supervision = some n ∧ 2500 ≤ n) ∧
          c = .linkLost) ∨ (cmd = .dryCountExpiry ∧ (∃ n, s.hcu.dry = .counting n ∧ 2000 ≤ n) ∧ c = .heaterDry) ∨
            (∃ a b, cmd = .flowPulse a b ∧ s.wpu.grant = none ∧ s.wpu.window = 40 ∧ c = .inletLeak) ∨
              (∃ r, cmd = .temperatureSample r ∧ 850 ≤ r ∧ r ≤ 990 ∧ s.hcu.noSample = false ∧ 0 ≤ s.hcu.temp ∧ s.hcu.temp < 850 ∧
                c = .overtemp) ∨ (∃ r, cmd = .temperatureSample r ∧ (r < 0 ∨ 990 < r) ∧ s.hcu.noSample = false ∧ 0 ≤ s.hcu.temp ∧
                  s.hcu.temp ≤ 990 ∧ c = .sensorFault)) ∧
      s.cdu.mode ≠ .safe ∧ s.wsc.wash ≠ .running) ∧
    (∃ (cmd : Instr) (c : Condition) (s : State),
      ((cmd = .overfillSwitchChange true ∧ s.wpu.overfillClosed = false ∧ c = .overfill) ∨ (cmd = .leakFloatChange true ∧
        s.wpu.leakWet = false ∧ c = .leak) ∨ (cmd = .supervisionTimerExpiry ∧ (∃ n, s.lkp.supervision = some n ∧ 2500 ≤ n) ∧
          c = .linkLost) ∨ (cmd = .dryCountExpiry ∧ (∃ n, s.hcu.dry = .counting n ∧ 2000 ≤ n) ∧ c = .heaterDry) ∨
            (∃ a b, cmd = .flowPulse a b ∧ s.wpu.grant = none ∧ s.wpu.window = 40 ∧ c = .inletLeak) ∨
              (∃ r, cmd = .temperatureSample r ∧ 850 ≤ r ∧ r ≤ 990 ∧ s.hcu.noSample = false ∧ 0 ≤ s.hcu.temp ∧ s.hcu.temp < 850 ∧
                c = .overtemp) ∨ (∃ r, cmd = .temperatureSample r ∧ (r < 0 ∨ 990 < r) ∧ s.hcu.noSample = false ∧ 0 ≤ s.hcu.temp ∧
                  s.hcu.temp ≤ 990 ∧ c = .sensorFault)) ∧
      s.cdu.mode ≠ .safe ∧ s.cdu.mode = .run ∧ s.wsc.wash = .running ∧ s.wsc.active ≠ none) ∧
    (∃ (cmd : Instr) (c : Condition) (s : State),
      ((cmd = .overfillSwitchChange true ∧ s.wpu.overfillClosed = false ∧ c = .overfill) ∨ (cmd = .leakFloatChange true ∧
        s.wpu.leakWet = false ∧ c = .leak) ∨ (cmd = .supervisionTimerExpiry ∧ (∃ n, s.lkp.supervision = some n ∧ 2500 ≤ n) ∧
          c = .linkLost) ∨ (cmd = .dryCountExpiry ∧ (∃ n, s.hcu.dry = .counting n ∧ 2000 ≤ n) ∧ c = .heaterDry) ∨
            (∃ a b, cmd = .flowPulse a b ∧ s.wpu.grant = none ∧ s.wpu.window = 40 ∧ c = .inletLeak) ∨
              (∃ r, cmd = .temperatureSample r ∧ 850 ≤ r ∧ r ≤ 990 ∧ s.hcu.noSample = false ∧ 0 ≤ s.hcu.temp ∧ s.hcu.temp < 850 ∧
                c = .overtemp) ∨ (∃ r, cmd = .temperatureSample r ∧ (r < 0 ∨ 990 < r) ∧ s.hcu.noSample = false ∧ 0 ≤ s.hcu.temp ∧
                  s.hcu.temp ≤ 990 ∧ c = .sensorFault)) ∧
      s.cdu.mode ≠ .safe ∧ s.cdu.mode = .run ∧ s.wsc.wash = .running ∧ s.wsc.active ≠ none) :=
  ⟨⟨.overfillSwitchChange true, .overfill, washing .heat, Or.inl ⟨rfl, rfl, rfl⟩, by decide⟩,
   ⟨.leakFloatChange true, .leak, moving .extending .driving .host, Or.inr (Or.inl ⟨rfl, rfl, rfl⟩), by decide⟩,
   ⟨.supervisionTimerExpiry, .linkLost, { testing [.circPump, .heater] with lkp.supervision := some 2500 }, .heater,
   Or.inr (Or.inr (Or.inl ⟨rfl, ⟨2500, rfl, by decide⟩, rfl⟩)), by decide⟩,
   ⟨.dryCountExpiry, .heaterDry, { testing [.heater] with hcu.dry := .counting 2000 }, .heater,
   Or.inr (Or.inr (Or.inr (Or.inl ⟨rfl, ⟨_, rfl, by decide⟩, rfl⟩))), by decide⟩,
   ⟨.flowPulse false false, .inletLeak, { atRest with wpu.window := 40 },
   Or.inr (Or.inr (Or.inr (Or.inr (Or.inl ⟨_, _, rfl, rfl, rfl, rfl⟩)))), by decide⟩,
   ⟨.temperatureSample 850, .overtemp, { washing .heat with hcu.temp := 849 },
   Or.inr (Or.inr (Or.inr (Or.inr (Or.inr (Or.inl ⟨850, rfl, by decide, by decide, rfl, by decide, by decide, rfl⟩))))),
   by decide⟩,
   ⟨.temperatureSample 991, .sensorFault, { washing .heat with hcu.temp := 990 },
   Or.inr (Or.inr (Or.inr (Or.inr (Or.inr (Or.inr (⟨991, rfl, Or.inr (by decide), rfl, by decide, by decide, rfl⟩)))))),
   by decide⟩⟩

theorem test_safeIsKeptAndLeft_premises :
    (∃ (s : State), s.cdu.mode = .safe ∧ s.wpu.overfillClosed = false) ∧
    (∃ (s : State), s.cdu.mode = .safe ∧ s.wpu.leakWet = false) ∧
    (∃ (cmd : Instr) (c : Condition) (s : State),
      ((∃ r, cmd = .temperatureSample r ∧ 850 ≤ r ∧ r ≤ 990 ∧ s.hcu.noSample = false ∧ 0 ≤ s.hcu.temp ∧ s.hcu.temp < 850 ∧
        s.hcu.heat = none ∧ c = .overtemp) ∨ (∃ r, cmd = .temperatureSample r ∧ (r < 0 ∨ 990 < r) ∧ s.hcu.noSample = false ∧
          0 ≤ s.hcu.temp ∧ s.hcu.temp ≤ 990 ∧ s.hcu.heat = none ∧ c = .sensorFault) ∨ (∃ a b, cmd = .flowPulse a b ∧
            s.wpu.grant = none ∧ s.wpu.window = 40 ∧ c = .inletLeak) ∨ (cmd = .dryCountExpiry ∧ (∃ n, s.hcu.dry = .counting n ∧
              2000 ≤ n) ∧ c = .heaterDry) ∨ (cmd = .supervisionTimerExpiry ∧ (∃ n, s.lkp.supervision = some n ∧ 2500 ≤ n) ∧
                c = .linkLost)) ∧
      s.cdu.mode = .safe ∧ (c = .overtemp ∨ c = .sensorFault ∨ c = .linkLost)) ∧
    (∃ (cmd : Instr) (c : Condition) (s : State),
      ((∃ r, cmd = .temperatureSample r ∧ 850 ≤ r ∧ r ≤ 990 ∧ s.hcu.noSample = false ∧ 0 ≤ s.hcu.temp ∧ s.hcu.temp < 850 ∧
        s.hcu.heat = none ∧ c = .overtemp) ∨ (∃ r, cmd = .temperatureSample r ∧ (r < 0 ∨ 990 < r) ∧ s.hcu.noSample = false ∧
          0 ≤ s.hcu.temp ∧ s.hcu.temp ≤ 990 ∧ s.hcu.heat = none ∧ c = .sensorFault) ∨ (∃ a b, cmd = .flowPulse a b ∧
            s.wpu.grant = none ∧ s.wpu.window = 40 ∧ c = .inletLeak) ∨ (cmd = .dryCountExpiry ∧ (∃ n, s.hcu.dry = .counting n ∧
              2000 ≤ n) ∧ c = .heaterDry) ∨ (cmd = .supervisionTimerExpiry ∧ (∃ n, s.lkp.supervision = some n ∧ 2500 ≤ n) ∧
                c = .linkLost)) ∧
      s.cdu.mode = .safe ∧ (c = .overtemp ∨ c = .sensorFault ∨ c = .linkLost)) ∧
    (∃ (cmd : Instr) (c : Condition) (s : State),
      ((∃ r, cmd = .temperatureSample r ∧ 850 ≤ r ∧ r ≤ 990 ∧ s.hcu.noSample = false ∧ 0 ≤ s.hcu.temp ∧ s.hcu.temp < 850 ∧
        s.hcu.heat = none ∧ c = .overtemp) ∨ (∃ r, cmd = .temperatureSample r ∧ (r < 0 ∨ 990 < r) ∧ s.hcu.noSample = false ∧
          0 ≤ s.hcu.temp ∧ s.hcu.temp ≤ 990 ∧ s.hcu.heat = none ∧ c = .sensorFault) ∨ (∃ a b, cmd = .flowPulse a b ∧
            s.wpu.grant = none ∧ s.wpu.window = 40 ∧ c = .inletLeak) ∨ (cmd = .dryCountExpiry ∧ (∃ n, s.hcu.dry = .counting n ∧
              2000 ≤ n) ∧ c = .heaterDry) ∨ (cmd = .supervisionTimerExpiry ∧ (∃ n, s.lkp.supervision = some n ∧ 2500 ≤ n) ∧
                c = .linkLost)) ∧
      s.cdu.mode = .safe ∧ c = .inletLeak) ∧
    (∃ (cmd : Instr) (c : Condition) (s : State),
      ((∃ r, cmd = .temperatureSample r ∧ 850 ≤ r ∧ r ≤ 990 ∧ s.hcu.noSample = false ∧ 0 ≤ s.hcu.temp ∧ s.hcu.temp < 850 ∧
        s.hcu.heat = none ∧ c = .overtemp) ∨ (∃ r, cmd = .temperatureSample r ∧ (r < 0 ∨ 990 < r) ∧ s.hcu.noSample = false ∧
          0 ≤ s.hcu.temp ∧ s.hcu.temp ≤ 990 ∧ s.hcu.heat = none ∧ c = .sensorFault) ∨ (∃ a b, cmd = .flowPulse a b ∧
            s.wpu.grant = none ∧ s.wpu.window = 40 ∧ c = .inletLeak) ∨ (cmd = .dryCountExpiry ∧ (∃ n, s.hcu.dry = .counting n ∧
              2000 ≤ n) ∧ c = .heaterDry) ∨ (cmd = .supervisionTimerExpiry ∧ (∃ n, s.lkp.supervision = some n ∧ 2500 ≤ n) ∧
                c = .linkLost)) ∧
      s.cdu.mode = .safe ∧ c = .heaterDry) ∧
    (∃ (cmd : Instr) (c : Condition) (s : State),
      ((∃ r, cmd = .temperatureSample r ∧ 850 ≤ r ∧ r ≤ 990 ∧ s.hcu.noSample = false ∧ 0 ≤ s.hcu.temp ∧ s.hcu.temp < 850 ∧
        s.hcu.heat = none ∧ c = .overtemp) ∨ (∃ r, cmd = .temperatureSample r ∧ (r < 0 ∨ 990 < r) ∧ s.hcu.noSample = false ∧
          0 ≤ s.hcu.temp ∧ s.hcu.temp ≤ 990 ∧ s.hcu.heat = none ∧ c = .sensorFault) ∨ (∃ a b, cmd = .flowPulse a b ∧
            s.wpu.grant = none ∧ s.wpu.window = 40 ∧ c = .inletLeak) ∨ (cmd = .dryCountExpiry ∧ (∃ n, s.hcu.dry = .counting n ∧
              2000 ≤ n) ∧ c = .heaterDry) ∨ (cmd = .supervisionTimerExpiry ∧ (∃ n, s.lkp.supervision = some n ∧ 2500 ≤ n) ∧
                c = .linkLost)) ∧
      s.cdu.mode = .safe ∧ (c = .overtemp ∨ c = .sensorFault ∨ c = .linkLost)) ∧
    (∃ (s : State), (s.lkp.supervision = none ∨ (∃ n, s.lkp.supervision = some n ∧ n < 2500))) ∧
    (∃ (s : State), (s.hcu.dry = .stopped ∨ s.hcu.dry = .raised ∨ (∃ n, s.hcu.dry = .counting n ∧ n < 2000))) ∧
    (∃ (s : State), s.wpu.overfillClosed = true) ∧
    (∃ (s : State), s.wpu.leakWet = true) ∧
    (∃ (s : State), (s.cdu.mode ≠ .safe ∨ (∃ c ∈ s.cdu.safeSet, s.activeTest c = true))) ∧
    (∃ (s : State),
      s.cdu.mode = .safe ∧ (∀ c ∈ s.cdu.safeSet, s.activeTest c = false) ∧ s.sfu.list = [] ∧ s.sfu.run = none) :=
  ⟨⟨inSafe, by decide⟩,
   ⟨inSafe, by decide⟩,
   ⟨.temperatureSample 850, .overtemp, { inSafe with hcu.temp := 849 },
   Or.inl ⟨850, rfl, by decide, by decide, rfl, by decide, by decide, rfl, rfl⟩, by decide⟩,
   ⟨.temperatureSample 991, .sensorFault, { inSafe with hcu.temp := 990 },
   Or.inr (Or.inl ⟨991, rfl, Or.inr (by decide), rfl, by decide, by decide, rfl, rfl⟩), by decide⟩,
   ⟨.flowPulse false false, .inletLeak, { inSafe with wpu.window := 40 }, Or.inr (Or.inr (Or.inl ⟨_, _, rfl, rfl, rfl, rfl⟩)),
   by decide⟩,
   ⟨.dryCountExpiry, .heaterDry, { inSafe with hcu.dry := .counting 2000 },
   Or.inr (Or.inr (Or.inr (Or.inl ⟨rfl, ⟨_, rfl, by decide⟩, rfl⟩))), by decide⟩,
   ⟨.supervisionTimerExpiry, .linkLost, { inSafe with lkp.supervision := some 2500 },
   Or.inr (Or.inr (Or.inr (Or.inr (⟨rfl, ⟨2500, rfl, by decide⟩, rfl⟩)))), by decide⟩,
   ⟨{ inSafe with lkp.supervision := some 2499 }, Or.inr ⟨_, rfl, by decide⟩⟩,
   ⟨{ atRest with hcu.dry := .counting 1999 }, Or.inr (Or.inr ⟨_, rfl, by decide⟩)⟩,
   ⟨{ inSafe with wpu.overfillClosed := true }, by decide⟩,
   ⟨{ inSafe with wpu.leakWet := true }, by decide⟩,
   ⟨{ inSafe with cdu.safeSet := [.linkLost, .leak], wpu.leakWet := true }, by decide⟩,
   ⟨inSafe, by decide⟩⟩

theorem test_waterSwitchAndPulsesAreTaken_premises :
    (∃ (b : Bool) (s : State), s.wpu.waterPresent = b) ∧
    (∃ (b : Bool) (s : State), s.wpu.waterPresent ≠ b ∧ b = true) ∧
    (∃ (b : Bool) (s : State), s.wpu.waterPresent ≠ b ∧ b = false ∧ s.hcu.heat ≠ none ∧ s.hcu.dry = .stopped) ∧
    (∃ (b : Bool) (s : State), s.wpu.waterPresent ≠ b ∧ b = false ∧ (s.hcu.heat = none ∨ s.hcu.dry ≠ .stopped)) ∧
    (∃ (s : State), s.wpu.grant = some .test) ∧
    (∃ (s : State), s.wpu.grant = none ∧ s.wpu.window ≠ 40) :=
  ⟨⟨false, atRest, by decide⟩,
   ⟨true, { atRest with hcu.dry := .counting 1999 }, by decide⟩,
   ⟨false, washing .heat, by decide⟩,
   ⟨false, { atRest with wpu.waterPresent := true }, by decide⟩,
   ⟨{ testing [.inlet] with wpu.grant := some .test }, by decide⟩,
   ⟨{ atRest with wpu.window := 39 }, by decide⟩⟩

theorem test_fillPulseIsRoutedAndCharged_premises :
    (∃ (r : FillRecord) (b : Blend) (s : State),
      (r.pulses % 32 ≠ 0 ∨ b.nb = 32 ∧ b.service = none ∨ (∃ d, b.service = some d ∧ (s.col d).holdPending = false)) ∧
      s.wpu.grant = some .fill ∧ s.wpu.fillRec = some r ∧ s.sfu.blend = some b ∧ r.pulses + 1 < r.targetPulses ∧
      (r.pulses % 32 < b.nb ∨ b.service = none)) ∧
    (∃ (r : FillRecord) (b : Blend) (s : State),
      (r.pulses % 32 ≠ 0 ∨ b.nb = 32 ∧ b.service = none ∨ (∃ d, b.service = some d ∧ (s.col d).holdPending = false)) ∧
      s.wpu.grant = some .fill ∧ s.wpu.fillRec = some r ∧ s.sfu.blend = some b ∧ r.pulses + 1 < r.targetPulses ∧
      (r.pulses % 32 < b.nb ∨ b.service = none)) ∧
    (∃ (compA : Bool) (compB : Bool) (r : FillRecord) (b : Blend) (s : State) (c : _),
      (r.pulses % 32 ≠ 0 ∨ b.nb = 32 ∧ b.service = none ∨ (∃ d, b.service = some d ∧ (s.col d).holdPending = false)) ∧
      s.wpu.grant = some .fill ∧ s.wpu.fillRec = some r ∧ s.sfu.blend = some b ∧ r.pulses + 1 < r.targetPulses ∧
      b.service = some c ∧ b.nb ≤ r.pulses % 32 ∧ 0 < r.k ∧ ((s.col c).residue + r.hRaw * 1000) / r.k < (s.col c).remaining ∧
      ((if c = .a then compA else compB) = false ∨ (s.col c).btRun < 15)) ∧
    (∃ (compA : Bool) (compB : Bool) (r : FillRecord) (b : Blend) (s : State) (c : _),
      (r.pulses % 32 ≠ 0 ∨ b.nb = 32 ∧ b.service = none ∨ (∃ d, b.service = some d ∧ (s.col d).holdPending = false)) ∧
      s.wpu.grant = some .fill ∧ s.wpu.fillRec = some r ∧ s.sfu.blend = some b ∧ r.pulses + 1 < r.targetPulses ∧
      b.service = some c ∧ b.nb ≤ r.pulses % 32 ∧ 0 < r.k ∧ ((s.col c).residue + r.hRaw * 1000) / r.k < (s.col c).remaining ∧
      ((if c = .a then compA else compB) = false ∨ (s.col c).btRun < 15)) :=
  ⟨⟨fillOf 4 200, blending, blendFill 4, Or.inl (by decide), by decide⟩,
   ⟨fillOf 1472 0, bypassing, filling (fillOf 1472 0) bypassing, Or.inr (Or.inl (by decide)), by decide⟩,
   ⟨true, false, fillOf 5 200, blending, { blendFill 5 with sfu.colA.remaining := 401, sfu.colA.btRun := 14 }, .a,
   Or.inl (by decide), by decide⟩,
   ⟨true, false, fillOf 0 200, ⟨0, some .a, false, false⟩,
   { filling (fillOf 0 200) ⟨0, some .a, false, false⟩ with sfu.colA.state := .inService, sfu.colA.remaining := 401 }, .a,
   Or.inr (Or.inr ⟨.a, by decide⟩), by decide⟩⟩

theorem test_fillCompletesAtItsTarget_premises :
    (∃ (r : FillRecord) (b : Blend) (a : ActivePhase) (x : ProgramContext) (s : State),
      s.wpu.grant = some .fill ∧ s.wpu.fillRec = some r ∧ s.sfu.blend = some b ∧ b.nb = 32 ∧ b.service = none ∧
      r.targetPulses ≤ r.pulses + 1 ∧ s.wpu.waitFill = none ∧ s.wsc.active = some a ∧ s.wsc.wash = .running ∧
      a.stage = .fill ∧ a.record.detergent = none ∧ a.record.additive = none ∧ a.record.rinse = none ∧ s.wsc.ctx = some x ∧
      x.total + (r.pulses + 1) * 1000 / r.k < 4294967296 ∧ s.wpu.waitRegen = none ∧ s.wpu.waitTest = none ∧ 0 < a.target) ∧
    (∃ (compA : Bool) (compB : Bool) (r : FillRecord) (b : Blend) (c : Column) (a : ActivePhase) (x : ProgramContext) (s : State),
      s.wpu.grant = some .fill ∧ s.wpu.fillRec = some r ∧ s.sfu.blend = some b ∧ b.service = some c ∧ b.nb ≤ r.pulses % 32 ∧
      (r.pulses % 32 ≠ 0 ∨ (s.col c).holdPending = false) ∧ r.targetPulses ≤ r.pulses + 1 ∧ 0 < r.k ∧ s.wpu.waitFill = none ∧
      s.wpu.waitRegen = none ∧ s.wpu.waitTest = none ∧ s.cdu.mode = .run ∧ s.wsc.active = some a ∧ s.wsc.wash = .running ∧
      a.stage = .fill ∧ a.record.detergent = none ∧ a.record.additive = none ∧ a.record.rinse = none ∧ s.wsc.ctx = some x ∧
      (s.col c).state = .inService ∧ (s.col c.other).state ≠ .inService ∧ (s.col c.other).holdPending = false ∧
      s.sfu.list = [] ∧ s.sfu.settings.automatic = false ∧
      ((if c = .a then compA else compB) = false ∨ (s.col c).btRun < 15) ∧
      ((s.col c).residue + r.hRaw * 1000) / r.k < (s.col c).remaining) ∧
    (∃ (compA : Bool) (compB : Bool) (r : FillRecord) (b : Blend) (c : Column) (a : ActivePhase) (x : ProgramContext) (s : State),
      s.wpu.grant = some .fill ∧ s.wpu.fillRec = some r ∧ s.sfu.blend = some b ∧ b.service = some c ∧ b.nb ≤ r.pulses % 32 ∧
      (r.pulses % 32 ≠ 0 ∨ (s.col c).holdPending = false) ∧ r.targetPulses ≤ r.pulses + 1 ∧ 0 < r.k ∧ s.wpu.waitFill = none ∧
      s.wpu.waitRegen = none ∧ s.wpu.waitTest = none ∧ s.cdu.mode = .run ∧ s.wsc.active = some a ∧ s.wsc.wash = .running ∧
      a.stage = .fill ∧ a.record.detergent = none ∧ a.record.additive = none ∧ a.record.rinse = none ∧ s.wsc.ctx = some x ∧
      (s.col c).state = .inService ∧ (s.col c.other).state ≠ .inService ∧ (s.col c.other).holdPending = false ∧
      s.sfu.list = [] ∧ s.sfu.settings.automatic = false ∧
      ((if c = .a then compA else compB) = false ∨ (s.col c).btRun < 15) ∧
      ((s.col c).residue + r.hRaw * 1000) / r.k < (s.col c).remaining ∧ (s.col c).holdPending = true) ∧
    (∃ (compA : Bool) (compB : Bool) (r : FillRecord) (b : Blend) (c : Column) (a : ActivePhase) (x : ProgramContext) (s : State),
      s.wpu.grant = some .fill ∧ s.wpu.fillRec = some r ∧ s.sfu.blend = some b ∧ b.service = some c ∧ b.nb ≤ r.pulses % 32 ∧
      (r.pulses % 32 ≠ 0 ∨ (s.col c).holdPending = false) ∧ r.targetPulses ≤ r.pulses + 1 ∧ 0 < r.k ∧ s.wpu.waitFill = none ∧
      s.wpu.waitRegen = none ∧ s.wpu.waitTest = none ∧ s.cdu.mode = .run ∧ s.wsc.active = some a ∧ s.wsc.wash = .running ∧
      a.stage = .fill ∧ a.record.detergent = none ∧ a.record.additive = none ∧ a.record.rinse = none ∧ s.wsc.ctx = some x ∧
      (s.col c).state = .inService ∧ (s.col c.other).state ≠ .inService ∧ (s.col c.other).holdPending = false ∧
      s.sfu.list = [] ∧ s.sfu.settings.automatic = false ∧
      ((if c = .a then compA else compB) = false ∨ (s.col c).btRun < 15) ∧
      ((s.col c).residue + r.hRaw * 1000) / r.k < (s.col c).remaining ∧ r.pulses % 32 = 0) ∧
    (∃ (compA : Bool) (compB : Bool) (r : FillRecord) (b : Blend) (c : Column) (a : ActivePhase) (x : ProgramContext) (s : State),
      s.wpu.grant = some .fill ∧ s.wpu.fillRec = some r ∧ s.sfu.blend = some b ∧ b.service = some c ∧ b.nb ≤ r.pulses % 32 ∧
      (r.pulses % 32 ≠ 0 ∨ (s.col c).holdPending = false) ∧ r.targetPulses ≤ r.pulses + 1 ∧ 0 < r.k ∧ s.wpu.waitFill = none ∧
      s.wpu.waitRegen = none ∧ s.wpu.waitTest = none ∧ s.cdu.mode = .run ∧ s.wsc.active = some a ∧ s.wsc.wash = .running ∧
      a.stage = .fill ∧ a.record.detergent = none ∧ a.record.additive = none ∧ a.record.rinse = none ∧ s.wsc.ctx = some x ∧
      (s.col c).state = .inService ∧ (s.col c.other).state ≠ .inService ∧ (s.col c.other).holdPending = false ∧
      s.sfu.list = [] ∧ s.sfu.settings.automatic = false ∧
      ((if c = .a then compA else compB) = false ∨ (s.col c).btRun < 15) ∧
      (s.col c).remaining ≤ ((s.col c).residue + r.hRaw * 1000) / r.k ∧ (s.col c).holdPending = false ∧
      (s.col c.other).state = .fresh) ∧
    (∃ (compA : Bool) (compB : Bool) (r : FillRecord) (b : Blend) (c : Column) (a : ActivePhase) (x : ProgramContext) (s : State),
      s.wpu.grant = some .fill ∧ s.wpu.fillRec = some r ∧ s.sfu.blend = some b ∧ b.service = some c ∧ b.nb ≤ r.pulses % 32 ∧
      (r.pulses % 32 ≠ 0 ∨ (s.col c).holdPending = false) ∧ r.targetPulses ≤ r.pulses + 1 ∧ 0 < r.k ∧ s.wpu.waitFill = none ∧
      s.wpu.waitRegen = none ∧ s.wpu.waitTest = none ∧ s.cdu.mode = .run ∧ s.wsc.active = some a ∧ s.wsc.wash = .running ∧
      a.stage = .fill ∧ a.record.detergent = none ∧ a.record.additive = none ∧ a.record.rinse = none ∧ s.wsc.ctx = some x ∧
      (s.col c).state = .inService ∧ (s.col c.other).state ≠ .inService ∧ (s.col c.other).holdPending = false ∧
      s.sfu.list = [] ∧ s.sfu.settings.automatic = false ∧
      ((if c = .a then compA else compB) = false ∨ (s.col c).btRun < 15) ∧
      (s.col c).remaining ≤ ((s.col c).residue + r.hRaw * 1000) / r.k ∧ (s.col c).holdPending = false ∧
      (s.col c.other).state ≠ .fresh ∧ b.hardFill = true) ∧
    (∃ (compA : Bool) (compB : Bool) (r : FillRecord) (b : Blend) (c : Column) (a : ActivePhase) (x : ProgramContext) (s : State),
      s.wpu.grant = some .fill ∧ s.wpu.fillRec = some r ∧ s.sfu.blend = some b ∧ b.service = some c ∧ b.nb ≤ r.pulses % 32 ∧
      (r.pulses % 32 ≠ 0 ∨ (s.col c).holdPending = false) ∧ r.targetPulses ≤ r.pulses + 1 ∧ 0 < r.k ∧ s.wpu.waitFill = none ∧
      s.wpu.waitRegen = none ∧ s.wpu.waitTest = none ∧ s.cdu.mode = .run ∧ s.wsc.active = some a ∧ s.wsc.wash = .running ∧
      a.stage = .fill ∧ a.record.detergent = none ∧ a.record.additive = none ∧ a.record.rinse = none ∧ s.wsc.ctx = some x ∧
      (s.col c).state = .inService ∧ (s.col c.other).state ≠ .inService ∧ (s.col c.other).holdPending = false ∧
      s.sfu.list = [] ∧ s.sfu.settings.automatic = false ∧
      ((if c = .a then compA else compB) = false ∨ (s.col c).btRun < 15) ∧
      (s.col c).remaining ≤ ((s.col c).residue + r.hRaw * 1000) / r.k ∧ (s.col c).holdPending = false ∧
      (s.col c.other).state ≠ .fresh ∧ b.hardFill = false ∧
      (hasCondition s.cdu.traps .hardFill ∨ a.record.softRequired = true)) ∧
    (∃ (compA : Bool) (compB : Bool) (r : FillRecord) (b : Blend) (c : Column) (a : ActivePhase) (x : ProgramContext) (s : State),
      s.wpu.grant = some .fill ∧ s.wpu.fillRec = some r ∧ s.sfu.blend = some b ∧ b.service = some c ∧ b.nb ≤ r.pulses % 32 ∧
      (r.pulses % 32 ≠ 0 ∨ (s.col c).holdPending = false) ∧ r.targetPulses ≤ r.pulses + 1 ∧ 0 < r.k ∧ s.wpu.waitFill = none ∧
      s.wpu.waitRegen = none ∧ s.wpu.waitTest = none ∧ s.cdu.mode = .run ∧ s.wsc.active = some a ∧ s.wsc.wash = .running ∧
      a.stage = .fill ∧ a.record.detergent = none ∧ a.record.additive = none ∧ a.record.rinse = none ∧ s.wsc.ctx = some x ∧
      (s.col c).state = .inService ∧ (s.col c.other).state ≠ .inService ∧ (s.col c.other).holdPending = false ∧
      s.sfu.list = [] ∧ s.sfu.settings.automatic = false ∧
      ((if c = .a then compA else compB) = false ∨ (s.col c).btRun < 15) ∧
      (s.col c).remaining ≤ ((s.col c).residue + r.hRaw * 1000) / r.k ∧ (s.col c).holdPending = false ∧
      (s.col c.other).state ≠ .fresh ∧ b.hardFill = false ∧ ¬hasCondition s.cdu.traps .hardFill ∧
      a.record.softRequired = false) ∧
    (∃ (r : FillRecord) (b : Blend) (c : Column) (s : State),
      (∀ q, s.sfu.run = some q → q.outcome ≠ none) ∧ s.wpu.grant = some .fill ∧ s.wpu.fillRec = some r ∧
      s.sfu.blend = some b ∧ b.service = some c ∧ b.nb ≤ r.pulses % 32 ∧ r.pulses % 32 ≠ 0 ∧ r.targetPulses ≤ r.pulses + 1 ∧
      0 < r.k ∧ s.wpu.inhibit = false ∧ s.wpu.waitFill = none ∧ s.wpu.waitRegen = none ∧ s.cdu.mode = .run ∧
      (s.col c).state = .inService ∧ (s.col c).holdPending = false ∧
      (s.col c).remaining ≤ ((s.col c).residue + r.hRaw * 1000) / r.k ∧ (s.col c.other).state = .fresh ∧ s.sfu.list = [] ∧
      s.sfu.settings.automatic = true ∧ s.sfu.settings.window = .anytime ∧ (s.col c.other).holdPending = false) :=
  ⟨⟨fillOf 1499 0, bypassing, inStage .fill, ⟨none, false, 0⟩, filling (fillOf 1499 0) bypassing, by decide⟩,
   ⟨false, false, fillOf 1499 200, blending, .a, inStage .fill, ⟨none, false, 0⟩,
   { blendFill 1499 with sfu.colA.remaining := 401 }, by decide⟩,
   ⟨false, false, fillOf 1499 200, blending, .a, inStage .fill, ⟨none, false, 0⟩,
   { blendFill 1499 with sfu.colA.remaining := 401, sfu.colA.holdPending := true }, by decide⟩,
   ⟨false, false, { fillOf 1504 200 with targetPulses := 1505 }, ⟨0, some .a, false, false⟩, .a, inStage .fill,
   ⟨none, false, 0⟩,
   { filling { fillOf 1504 200 with targetPulses := 1505 } ⟨0, some .a, false, false⟩ with
     sfu.colA.state := .inService, sfu.settings.automatic := false },
   by decide⟩,
   ⟨false, false, fillOf 1499 200, blending, .a, inStage .fill, ⟨none, false, 0⟩,
   { blendFill 1499 with sfu.colA.remaining := 400 }, by decide⟩,
   ⟨false, false, fillOf 1499 200, { blending with hardFill := true }, .a, inStage .fill, ⟨none, false, 0⟩,
   { filling (fillOf 1499 200) { blending with hardFill := true } with
     sfu.colA.state := .inService, sfu.colA.remaining := 400, sfu.colB.state := .held, sfu.settings.automatic := false },
   by decide⟩,
   ⟨false, false, fillOf 1499 200, blending, .a, inStage .fill, ⟨none, false, 0⟩,
   { blendFill 1499 with sfu.colA.remaining := 400, sfu.colB.state := .held, cdu.traps := Condition.hardFill.mask }, by decide⟩,
   ⟨false, false, fillOf 1499 200, blending, .a, inStage .fill, ⟨none, false, 0⟩,
   { blendFill 1499 with sfu.colA.remaining := 400, sfu.colB.state := .held }, by decide⟩,
   ⟨fillOf 1499 200, blending, .a, { blendFill 1499 with sfu.settings.automatic := true, sfu.colA.remaining := 400 },
   by rintro _ ⟨⟩, by decide⟩⟩

theorem test_columnIsExhausted_premises :
    (∃ (compA : Bool) (compB : Bool) (r : FillRecord) (b : Blend) (c : Column) (s : State),
      s.wpu.grant = some .fill ∧ s.wpu.fillRec = some r ∧ s.sfu.blend = some b ∧ b.service = some c ∧ b.nb ≤ r.pulses % 32 ∧
      (r.pulses % 32 ≠ 0 ∨ (s.col c).holdPending = false) ∧ r.pulses + 1 < r.targetPulses ∧ 0 < r.k ∧ s.wpu.inhibit = false ∧
      s.cdu.mode = .run ∧ (s.col c).state = .inService ∧ s.listed c = false ∧ (s.col c.other).state = .fresh ∧
      s.listed c.other = false ∧
      ((s.col c).remaining ≤ ((s.col c).residue + r.hRaw * 1000) / r.k ∨ (s.col c).btRun = 15 ∧
        (if c = .a then compA else compB) = true) ∧
      (s.col c).remaining ≤ ((s.col c).residue + r.hRaw * 1000) / r.k ∧ (s.col c).holdPending = false ∧
      s.sfu.settings.automatic = false) ∧
    (∃ (compA : Bool) (compB : Bool) (r : FillRecord) (b : Blend) (c : Column) (s : State),
      s.wpu.grant = some .fill ∧ s.wpu.fillRec = some r ∧ s.sfu.blend = some b ∧ b.service = some c ∧ b.nb ≤ r.pulses % 32 ∧
      (r.pulses % 32 ≠ 0 ∨ (s.col c).holdPending = false) ∧ r.pulses + 1 < r.targetPulses ∧ 0 < r.k ∧ s.wpu.inhibit = false ∧
      s.cdu.mode = .run ∧ (s.col c).state = .inService ∧ s.listed c = false ∧ (s.col c.other).state = .fresh ∧
      s.listed c.other = false ∧
      ((s.col c).remaining ≤ ((s.col c).residue + r.hRaw * 1000) / r.k ∨ (s.col c).btRun = 15 ∧
        (if c = .a then compA else compB) = true) ∧
      (s.col c).remaining ≤ ((s.col c).residue + r.hRaw * 1000) / r.k) ∧
    (∃ (compA : Bool) (compB : Bool) (r : FillRecord) (b : Blend) (c : Column) (s : State) (left : _),
      s.wpu.grant = some .fill ∧ s.wpu.fillRec = some r ∧ s.sfu.blend = some b ∧ b.service = some c ∧ b.nb ≤ r.pulses % 32 ∧
      (r.pulses % 32 ≠ 0 ∨ (s.col c).holdPending = false) ∧ r.pulses + 1 < r.targetPulses ∧ 0 < r.k ∧ s.wpu.inhibit = false ∧
      s.cdu.mode = .run ∧ (s.col c).state = .inService ∧ s.listed c = false ∧ (s.col c.other).state = .fresh ∧
      s.listed c.other = false ∧
      ((s.col c).remaining ≤ ((s.col c).residue + r.hRaw * 1000) / r.k ∨ (s.col c).btRun = 15 ∧
        (if c = .a then compA else compB) = true) ∧
      (s.col c).remaining = left + ((s.col c).residue + r.hRaw * 1000) / r.k ∧ 0 < left) ∧
    (∃ (compA : Bool) (compB : Bool) (r : FillRecord) (b : Blend) (c : Column) (s : State),
      s.wpu.grant = some .fill ∧ s.wpu.fillRec = some r ∧ s.sfu.blend = some b ∧ b.service = some c ∧ b.nb ≤ r.pulses % 32 ∧
      (r.pulses % 32 ≠ 0 ∨ (s.col c).holdPending = false) ∧ r.pulses + 1 < r.targetPulses ∧ 0 < r.k ∧ s.wpu.inhibit = false ∧
      s.cdu.mode = .run ∧ (s.col c).state = .inService ∧ s.listed c = false ∧ (s.col c.other).state = .fresh ∧
      s.listed c.other = false ∧
      ((s.col c).remaining ≤ ((s.col c).residue + r.hRaw * 1000) / r.k ∨ (s.col c).btRun = 15 ∧
        (if c = .a then compA else compB) = true) ∧
      (s.col c).holdPending = true) ∧
    (∃ (compA : Bool) (compB : Bool) (r : FillRecord) (b : Blend) (c : Column) (s : State),
      (∀ q, s.sfu.run = some q → q.outcome ≠ none) ∧ s.wpu.grant = some .fill ∧ s.wpu.fillRec = some r ∧
      s.sfu.blend = some b ∧ b.service = some c ∧ b.nb ≤ r.pulses % 32 ∧ (r.pulses % 32 ≠ 0 ∨ (s.col c).holdPending = false) ∧
      r.pulses + 1 < r.targetPulses ∧ 0 < r.k ∧ s.wpu.inhibit = false ∧ s.cdu.mode = .run ∧ (s.col c).state = .inService ∧
      s.listed c = false ∧ (s.col c.other).state = .fresh ∧ s.listed c.other = false ∧
      ((s.col c).remaining ≤ ((s.col c).residue + r.hRaw * 1000) / r.k ∨ (s.col c).btRun = 15 ∧
        (if c = .a then compA else compB) = true) ∧
      (s.col c).holdPending = false ∧ s.sfu.settings.automatic = true ∧ s.sfu.list = [] ∧ s.sfu.settings.window = .anytime) ∧
    (∃ (compA : Bool) (compB : Bool) (r : FillRecord) (b : Blend) (c : Column) (s : State),
      (∀ q, s.sfu.run = some q → q.outcome ≠ none) ∧ (∀ a, s.wsc.active = some a → a.record.kind ≠ .dry) ∧
      s.wpu.grant = some .fill ∧ s.wpu.fillRec = some r ∧ s.sfu.blend = some b ∧ b.service = some c ∧ b.nb ≤ r.pulses % 32 ∧
      (r.pulses % 32 ≠ 0 ∨ (s.col c).holdPending = false) ∧ r.pulses + 1 < r.targetPulses ∧ 0 < r.k ∧ s.wpu.inhibit = false ∧
      s.cdu.mode = .run ∧ (s.col c).state = .inService ∧ s.listed c = false ∧ (s.col c.other).state = .fresh ∧
      s.listed c.other = false ∧
      ((s.col c).remaining ≤ ((s.col c).residue + r.hRaw * 1000) / r.k ∨ (s.col c).btRun = 15 ∧
        (if c = .a then compA else compB) = true) ∧
      (s.col c).holdPending = false ∧ s.sfu.settings.automatic = true ∧ s.sfu.list = [] ∧ s.sfu.settings.window = .quiet) ∧
    (∃ (r : FillRecord) (b : Blend) (c : Column) (a : ActivePhase) (s : State),
      s.wpu.grant = some .fill ∧ s.wpu.fillRec = some r ∧ s.sfu.blend = some b ∧ b.service = some c ∧ b.nb ≤ r.pulses % 32 ∧
      r.pulses % 32 ≠ 0 ∧ r.pulses + 1 < r.targetPulses ∧ 0 < r.k ∧ s.wpu.inhibit = false ∧ s.cdu.mode = .run ∧
      s.wsc.wash = .running ∧ s.wsc.active = some a ∧ a.stage = .fill ∧ s.wpu.waitFill = none ∧ s.wpu.waitRegen = none ∧
      s.wpu.waitTest = none ∧ (s.col c).state = .inService ∧ (s.col c).remaining ≤ ((s.col c).residue + r.hRaw * 1000) / r.k ∧
      (s.col c.other).state ≠ .inService ∧ ((s.col c.other).state = .fresh → s.listed c.other = true) ∧
      (¬((s.col c).holdPending = false ∧ s.sfu.settings.automatic = true)) ∧ b.hardFill = true) ∧
    (∃ (r : FillRecord) (b : Blend) (c : Column) (a : ActivePhase) (s : State),
      s.wpu.grant = some .fill ∧ s.wpu.fillRec = some r ∧ s.sfu.blend = some b ∧ b.service = some c ∧ b.nb ≤ r.pulses % 32 ∧
      r.pulses % 32 ≠ 0 ∧ r.pulses + 1 < r.targetPulses ∧ 0 < r.k ∧ s.wpu.inhibit = false ∧ s.cdu.mode = .run ∧
      s.wsc.wash = .running ∧ s.wsc.active = some a ∧ a.stage = .fill ∧ s.wpu.waitFill = none ∧ s.wpu.waitRegen = none ∧
      s.wpu.waitTest = none ∧ (s.col c).state = .inService ∧ (s.col c).remaining ≤ ((s.col c).residue + r.hRaw * 1000) / r.k ∧
      (s.col c.other).state ≠ .inService ∧ ((s.col c.other).state = .fresh → s.listed c.other = true) ∧
      (¬((s.col c).holdPending = false ∧ s.sfu.settings.automatic = true)) ∧ b.hardFill = false ∧
      (hasCondition s.cdu.traps .hardFill ∨ a.record.softRequired = true)) ∧
    (∃ (r : FillRecord) (b : Blend) (c : Column) (a : ActivePhase) (s : State),
      s.wpu.grant = some .fill ∧ s.wpu.fillRec = some r ∧ s.sfu.blend = some b ∧ b.service = some c ∧ b.nb ≤ r.pulses % 32 ∧
      r.pulses % 32 ≠ 0 ∧ r.pulses + 1 < r.targetPulses ∧ 0 < r.k ∧ s.wpu.inhibit = false ∧ s.cdu.mode = .run ∧
      s.wsc.wash = .running ∧ s.wsc.active = some a ∧ a.stage = .fill ∧ s.wpu.waitFill = none ∧ s.wpu.waitRegen = none ∧
      s.wpu.waitTest = none ∧ (s.col c).state = .inService ∧ (s.col c).remaining ≤ ((s.col c).residue + r.hRaw * 1000) / r.k ∧
      (s.col c.other).state ≠ .inService ∧ ((s.col c.other).state = .fresh → s.listed c.other = true) ∧
      (¬((s.col c).holdPending = false ∧ s.sfu.settings.automatic = true)) ∧ b.hardFill = false ∧
      ¬hasCondition s.cdu.traps .hardFill ∧ a.record.softRequired = false) ∧
    (∃ (r : FillRecord) (b : Blend) (c : Column) (a : ActivePhase) (s : State),
      s.wpu.grant = some .fill ∧ s.wpu.fillRec = some r ∧ s.sfu.blend = some b ∧ b.service = some c ∧ b.nb ≤ r.pulses % 32 ∧
      r.pulses + 1 < r.targetPulses ∧ 0 < r.k ∧ s.wpu.inhibit = false ∧ s.cdu.mode = .run ∧ s.wsc.wash = .running ∧
      s.wsc.active = some a ∧ a.stage = .fill ∧ s.wpu.waitFill = none ∧ s.wpu.waitTest = none ∧ (s.col c).state = .inService ∧
      (s.col c).remaining ≤ ((s.col c).residue + r.hRaw * 1000) / r.k ∧ (s.col c.other).state ≠ .inService ∧
      ((s.col c.other).state = .fresh → s.listed c.other = true) ∧ (s.col c).holdPending = false ∧
      s.sfu.settings.automatic = true ∧ s.listed c = false ∧ b.hardFill = true) ∧
    (∃ (r : FillRecord) (b : Blend) (c : Column) (a : ActivePhase) (s : State),
      s.wpu.grant = some .fill ∧ s.wpu.fillRec = some r ∧ s.sfu.blend = some b ∧ b.service = some c ∧ b.nb ≤ r.pulses % 32 ∧
      r.pulses + 1 < r.targetPulses ∧ 0 < r.k ∧ s.wpu.inhibit = false ∧ s.cdu.mode = .run ∧ s.wsc.wash = .running ∧
      s.wsc.active = some a ∧ a.stage = .fill ∧ s.wpu.waitFill = none ∧ s.wpu.waitTest = none ∧ (s.col c).state = .inService ∧
      (s.col c).remaining ≤ ((s.col c).residue + r.hRaw * 1000) / r.k ∧ (s.col c.other).state ≠ .inService ∧
      ((s.col c.other).state = .fresh → s.listed c.other = true) ∧ (s.col c).holdPending = false ∧
      s.sfu.settings.automatic = true ∧ s.listed c = false ∧ b.hardFill = false ∧
      (hasCondition s.cdu.traps .hardFill ∨ a.record.softRequired = true)) ∧
    (∃ (r : FillRecord) (b : Blend) (c : Column) (a : ActivePhase) (s : State),
      s.wpu.grant = some .fill ∧ s.wpu.fillRec = some r ∧ s.sfu.blend = some b ∧ b.service = some c ∧ b.nb ≤ r.pulses % 32 ∧
      r.pulses + 1 < r.targetPulses ∧ 0 < r.k ∧ s.wpu.inhibit = false ∧ s.cdu.mode = .run ∧ s.wsc.wash = .running ∧
      s.wsc.active = some a ∧ a.stage = .fill ∧ s.wpu.waitFill = none ∧ s.wpu.waitTest = none ∧ (s.col c).state = .inService ∧
      (s.col c).remaining ≤ ((s.col c).residue + r.hRaw * 1000) / r.k ∧ (s.col c.other).state ≠ .inService ∧
      ((s.col c.other).state = .fresh → s.listed c.other = true) ∧ (s.col c).holdPending = false ∧
      s.sfu.settings.automatic = true ∧ s.listed c = false ∧ b.hardFill = false ∧ ¬hasCondition s.cdu.traps .hardFill ∧
      a.record.softRequired = false) :=
  ⟨⟨false, false, fillOf 31 200, blending, .a, { blendFill 31 with sfu.colA.remaining := 400 }, by decide⟩,
   ⟨false, false, fillOf 0 200, ⟨0, some .a, false, false⟩, .a,
   { filling (fillOf 0 200) ⟨0, some .a, false, false⟩ with sfu.colA.state := .inService, sfu.colA.remaining := 400 },
   by decide⟩,
   ⟨true, false, fillOf 5 200, blending, .a, { blendFill 5 with sfu.colA.remaining := 401, sfu.colA.btRun := 15 }, 1, by decide⟩,
   ⟨false, false, fillOf 31 200, blending, .a,
   { blendFill 31 with sfu.colA.holdPending := true, sfu.colA.remaining := 400, sfu.settings.automatic := true }, by decide⟩,
   ⟨false, false, fillOf 31 200, blending, .a, { blendFill 31 with sfu.colA.remaining := 400, sfu.settings.automatic := true },
   by rintro _ ⟨⟩, by decide⟩,
   ⟨false, false, fillOf 31 200, blending, .a,
   { blendFill 31 with sfu.colA.remaining := 400, sfu.settings.automatic := true, sfu.settings.window := .quiet },
   by rintro _ ⟨⟩, by rintro _ ⟨⟩; decide, by decide⟩,
   ⟨fillOf 31 200, { blending with hardFill := true }, .a, inStage .fill,
   { filling (fillOf 31 200) { blending with hardFill := true } with
     sfu.colA.state := .inService, sfu.colA.remaining := 400, sfu.colB.state := .held, sfu.settings.automatic := false },
   by decide⟩,
   ⟨fillOf 31 200, blending, .a, inStage .fill,
   { blendFill 31 with
     sfu.colA.remaining := 400, sfu.colB.state := .held, cdu.traps := Condition.hardFill.mask, sfu.colA.holdPending := true,
     sfu.settings.automatic := true },
   by decide⟩,
   ⟨fillOf 31 200, blending, .a, inStage .fill, { blendFill 31 with sfu.colA.remaining := 400, sfu.colB.state := .held },
   by decide⟩,
   ⟨fillOf 31 200, { blending with hardFill := true }, .a, inStage .fill,
   { filling (fillOf 31 200) { blending with hardFill := true } with
     sfu.colA.state := .inService, sfu.colA.remaining := 400, sfu.colB.state := .held, sfu.settings.automatic := true },
   by decide⟩,
   ⟨fillOf 31 200, blending, .a, inStage .fill,
   { blendFill 31 with
     sfu.colA.remaining := 400, sfu.colB.state := .held, cdu.traps := Condition.hardFill.mask, sfu.settings.automatic := true },
   by decide⟩,
   ⟨fillOf 31 200, blending, .a, inStage .fill,
   { blendFill 31 with sfu.colA.remaining := 400, sfu.colB.state := .held, sfu.settings.automatic := true }, by decide⟩⟩

theorem test_inletIsArbitrated_premises :
    (∃ (a : ActivePhase) (r : FillRecord) (c : Claimant) (s : State),
      s.wsc.wash = .held ∧ s.cdu.mode = .run ∧ s.wsc.active = some a ∧ a.stage = .fill ∧ s.doorClass = .closed ∧
      s.dru.latched = true ∧ s.cdu.causes = 0 ∧ s.dsu.live = [] ∧ s.wpu.fillRec = some r ∧ s.wpu.inhibit = false ∧
      s.wpu.grant = some c ∧ c ≠ .fill) ∧
    (∃ (c : Column) (s : State),
      ((s.col c).state = .fresh ∨ (s.col c).state = .exhausted) ∧ s.sfu.list = [] ∧ s.sfu.run = none ∧ s.cdu.mode ≠ .safe ∧
      s.sfu.settings.window = .anytime ∧ s.wpu.inhibit = false ∧ (s.wpu.grant = some .fill ∨ s.wpu.grant = some .test)) ∧
    (∃ (r : RunRecord) (f : FillClaim) (o : FillRecord) (b : Blend) (s : State),
      s.wpu.grant = some .regen ∧ s.sfu.run = some r ∧ r.outcome = none ∧ r.stage = .running .slowRinse ∧
      r.slow * 1000 ≤ r.stageMs ∧ s.wpu.inhibit = false ∧ s.wpu.waitFill = some f ∧ s.wpu.waitRegen = none ∧
      (s.wpu.fillRec = none ∧ s.wpu.settings.hRaw ≤ s.wpu.settings.hT ∨ s.wpu.fillRec = some o ∧ s.sfu.blend = some b ∧ b.nb = 32) ∧
      s.wpu.fillRec = none) ∧
    (∃ (r : RunRecord) (f : FillClaim) (o : FillRecord) (b : Blend) (s : State),
      s.wpu.grant = some .regen ∧ s.sfu.run = some r ∧ r.outcome = none ∧ r.stage = .running .slowRinse ∧
      r.slow * 1000 ≤ r.stageMs ∧ s.wpu.inhibit = false ∧ s.wpu.waitFill = some f ∧ s.wpu.waitRegen = none ∧
      (s.wpu.fillRec = none ∧ s.wpu.settings.hRaw ≤ s.wpu.settings.hT ∨ s.wpu.fillRec = some o ∧ s.sfu.blend = some b ∧ b.nb = 32) ∧
      s.wpu.fillRec = some o) ∧
    (∃ (r : FillRecord) (b : Blend) (q : RunRecord) (st : RegenStage) (a : ActivePhase) (s : State),
      s.wpu.grant = some .fill ∧ s.wpu.fillRec = some r ∧ s.sfu.blend = some b ∧ b.nb = 32 ∧ b.service = none ∧
      r.targetPulses ≤ r.pulses + 1 ∧ s.wpu.inhibit = false ∧ s.wpu.waitFill = none ∧ s.wpu.waitRegen = some st ∧
      s.sfu.run = some q ∧ q.outcome = none ∧ s.wsc.active = some a ∧ a.stage = .fill ∧ s.wsc.wash = .running ∧
      s.cdu.mode = .run ∧ a.record.detergent = none ∧ a.record.additive = none ∧ a.record.rinse = none) ∧
    (∃ (r : RunRecord) (n : Nat) (w : Nat) (e : RegenEntry) (s : State),
      s.wpu.grant = some .regen ∧ s.sfu.run = some r ∧ r.outcome = none ∧ r.stage = .running .fastRinse ∧
      r.stagePulses = some n ∧ r.targetPulses = some (n + 1) ∧ s.wpu.waitFill = none ∧ s.wpu.waitRegen = none ∧
      s.wpu.waitTest = some w ∧ s.sfu.list = [e]) ∧
    (∃ (a : ActivePhase) (f : FillClaim) (c : Claimant) (s : State),
      s.cdu.mode = .run ∧ s.wsc.wash = .running ∧ s.wsc.active = some a ∧ a.stage = .fill ∧ s.wpu.waitFill = some f ∧
      s.wpu.grant = some c ∧ c ≠ .fill) :=
  ⟨⟨inStage .fill, fillOf 40 0, .regen,
   { inHold (inStage .fill) with wpu.grant := some .regen, wpu.fillRec := some (fillOf 40 0), sfu.blend := some bypassing },
   by decide⟩,
   ⟨.b, { testing [.inlet] with wpu.grant := some .test }, by decide⟩,
   ⟨runIn (.running .slowRinse), ⟨7, 3000⟩, fillOf 40 0, bypassing,
   { regenerating (.running .slowRinse) with wpu.waitFill := some ⟨7, 3000⟩, wpu.settings.hRaw := 40 }, by decide⟩,
   ⟨runIn (.running .slowRinse), ⟨7, 3000⟩, fillOf 40 0, bypassing,
   { regenerating (.running .slowRinse) with
     wpu.waitFill := some ⟨7, 3000⟩, wpu.fillRec := some (fillOf 40 0), sfu.blend := some bypassing },
   by decide⟩,
   ⟨fillOf 1499 0, bypassing, runIn (.waitInlet .brine), .brine, inStage .fill,
   { filling (fillOf 1499 0) bypassing with wpu.waitRegen := some .brine, sfu.run := some (runIn (.waitInlet .brine)) },
   by decide⟩,
   ⟨runIn (.running .fastRinse), 149, 60, ⟨.a, false⟩, { regenerating (.running .fastRinse) with wpu.waitTest := some 60 },
   by decide⟩,
   ⟨inStage .fill, ⟨7, 3000⟩, .regen, { inRun (inStage .fill) with wpu.grant := some .regen, wpu.waitFill := some ⟨7, 3000⟩ },
   by decide⟩⟩

theorem test_columnIsSelected_premises :
    (∃ (a : ActivePhase) (r : FillRecord) (b : Blend) (s : State) (c : _),
      s.wsc.wash = .held ∧ s.cdu.mode = .run ∧ s.wsc.active = some a ∧ a.stage = .fill ∧ s.doorClass = .closed ∧
      s.dru.latched = true ∧ s.cdu.causes = 0 ∧ s.dsu.live = [] ∧ s.wpu.fillRec = some r ∧ s.wpu.inhibit = false ∧
      s.wpu.grant = none ∧ s.wpu.waitRegen = none ∧ s.wpu.waitTest = none ∧ s.sfu.blend = some b ∧ b.nb < 32 ∧
      (s.col c).state = .inService ∧ (s.col c.other).state ≠ .inService) ∧
    (∃ (a : ActivePhase) (r : FillRecord) (b : Blend) (s : State) (c : _),
      s.wsc.wash = .held ∧ s.cdu.mode = .run ∧ s.wsc.active = some a ∧ a.stage = .fill ∧ s.doorClass = .closed ∧
      s.dru.latched = true ∧ s.cdu.causes = 0 ∧ s.dsu.live = [] ∧ s.wpu.fillRec = some r ∧ s.wpu.inhibit = false ∧
      s.wpu.grant = none ∧ s.wpu.waitRegen = none ∧ s.wpu.waitTest = none ∧ s.sfu.blend = some b ∧ b.nb < 32 ∧
      (s.col c).state = .fresh ∧ s.listed c = false ∧ (s.col c.other).state ≠ .inService ∧
      (c = s.sfu.pref ∨ (s.col c.other).state ≠ .fresh ∨ s.listed c.other = true)) ∧
    (∃ (a : ActivePhase) (r : FillRecord) (b : Blend) (s : State) (c : _),
      s.wsc.wash = .held ∧ s.cdu.mode = .run ∧ s.wsc.active = some a ∧ a.stage = .fill ∧ s.doorClass = .closed ∧
      s.dru.latched = true ∧ s.cdu.causes = 0 ∧ s.dsu.live = [] ∧ s.wpu.fillRec = some r ∧ s.wpu.inhibit = false ∧
      s.wpu.grant = none ∧ s.wpu.waitRegen = none ∧ s.wpu.waitTest = none ∧ s.sfu.blend = some b ∧ b.nb < 32 ∧
      (s.col c).state = .fresh ∧ s.listed c = false ∧ (s.col c.other).state ≠ .inService ∧
      (c = s.sfu.pref ∨ (s.col c.other).state ≠ .fresh ∨ s.listed c.other = true)) ∧
    (∃ (a : ActivePhase) (r : FillRecord) (b : Blend) (s : State),
      (∀ c, (s.col c).state ≠ .inService ∧ ((s.col c).state = .fresh → s.listed c = true)) ∧ s.wsc.wash = .held ∧
      s.cdu.mode = .run ∧ s.wsc.active = some a ∧ a.stage = .fill ∧ s.doorClass = .closed ∧ s.dru.latched = true ∧
      s.cdu.causes = 0 ∧ s.dsu.live = [] ∧ s.wpu.fillRec = some r ∧ s.wpu.inhibit = false ∧ s.wpu.grant = none ∧
      s.wpu.waitRegen = none ∧ s.wpu.waitTest = none ∧ s.sfu.blend = some b ∧ b.nb < 32 ∧
      (hasCondition s.cdu.traps .hardFill ∨ a.record.softRequired = true)) ∧
    (∃ (a : ActivePhase) (r : FillRecord) (b : Blend) (s : State),
      (∀ c, (s.col c).state ≠ .inService ∧ ((s.col c).state = .fresh → s.listed c = true)) ∧ s.wsc.wash = .held ∧
      s.cdu.mode = .run ∧ s.wsc.active = some a ∧ a.stage = .fill ∧ s.doorClass = .closed ∧ s.dru.latched = true ∧
      s.cdu.causes = 0 ∧ s.dsu.live = [] ∧ s.wpu.fillRec = some r ∧ s.wpu.inhibit = false ∧ s.wpu.grant = none ∧
      s.wpu.waitRegen = none ∧ s.wpu.waitTest = none ∧ s.sfu.blend = some b ∧ b.nb < 32 ∧
      (hasCondition s.cdu.traps .hardFill ∨ a.record.softRequired = true)) ∧
    (∃ (a : ActivePhase) (r : FillRecord) (b : Blend) (s : State),
      (∀ c, (s.col c).state ≠ .inService ∧ ((s.col c).state = .fresh → s.listed c = true)) ∧ s.wsc.wash = .held ∧
      s.cdu.mode = .run ∧ s.wsc.active = some a ∧ a.stage = .fill ∧ s.doorClass = .closed ∧ s.dru.latched = true ∧
      s.cdu.causes = 0 ∧ s.dsu.live = [] ∧ s.wpu.fillRec = some r ∧ s.wpu.inhibit = false ∧ s.wpu.grant = none ∧
      s.wpu.waitRegen = none ∧ s.wpu.waitTest = none ∧ s.sfu.blend = some b ∧ b.nb < 32 ∧
      ¬hasCondition s.cdu.traps .hardFill ∧ a.record.softRequired = false) ∧
    (∃ (r : FillRecord) (b : Blend) (s : State) (c : _),
      (0 < b.nb ∨ b.service = none ∧ (∀ c, (s.col c).state ≠ .inService ∧ ((s.col c).state = .fresh → s.listed c = true))) ∧
      s.wpu.grant = some .fill ∧ s.wpu.fillRec = some r ∧ s.sfu.blend = some b ∧ r.pulses % 32 = 0 ∧ b.nb < 32 ∧
      r.pulses + 1 < r.targetPulses ∧ b.service = none ∧ (s.col c).state = .fresh ∧ s.listed c = false ∧
      (s.col c.other).state ≠ .inService ∧ ((s.col c.other).state ≠ .fresh ∨ s.listed c.other = true)) ∧
    (∃ (r : FillRecord) (b : Blend) (s : State),
      (0 < b.nb ∨ b.service = none ∧ (∀ c, (s.col c).state ≠ .inService ∧ ((s.col c).state = .fresh → s.listed c = true))) ∧
      (∀ c, (s.col c).state ≠ .inService ∧ ((s.col c).state = .fresh → s.listed c = true)) ∧ s.wpu.grant = some .fill ∧
      s.wpu.fillRec = some r ∧ s.sfu.blend = some b ∧ r.pulses % 32 = 0 ∧ b.nb < 32 ∧ r.pulses + 1 < r.targetPulses ∧
      b.service = none ∧ b.hardFill = true) ∧
    (∃ (r : FillRecord) (b : Blend) (s : State),
      (0 < b.nb ∨ b.service = none ∧ (∀ c, (s.col c).state ≠ .inService ∧ ((s.col c).state = .fresh → s.listed c = true))) ∧
      (∀ c, (s.col c).state ≠ .inService ∧ ((s.col c).state = .fresh → s.listed c = true)) ∧ s.wpu.grant = some .fill ∧
      s.wpu.fillRec = some r ∧ s.sfu.blend = some b ∧ r.pulses % 32 = 0 ∧ b.nb < 32 ∧ r.pulses + 1 < r.targetPulses ∧
      b.service = none ∧ b.hardFill = true) ∧
    (∃ (r : FillRecord) (b : Blend) (s : State) (c : _),
      (0 < b.nb ∨ b.service = none ∧ (∀ c, (s.col c).state ≠ .inService ∧ ((s.col c).state = .fresh → s.listed c = true))) ∧
      s.wpu.grant = some .fill ∧ s.wpu.fillRec = some r ∧ s.sfu.blend = some b ∧ r.pulses % 32 = 0 ∧ b.nb < 32 ∧
      r.pulses + 1 < r.targetPulses ∧ b.service = some c ∧ (s.col c).holdPending = true ∧ (s.col c).state = .inService ∧
      (s.col c.other).state = .fresh ∧ s.listed c.other = false) ∧
    (∃ (compA : Bool) (compB : Bool) (r : FillRecord) (b : Blend) (d : Column) (s : State),
      s.wpu.grant = some .fill ∧ s.wpu.fillRec = some r ∧ s.sfu.blend = some b ∧ r.pulses % 32 = 0 ∧ b.nb = 0 ∧
      r.pulses + 1 < r.targetPulses ∧ 0 < r.k ∧ (s.col d).state = .fresh ∧ s.listed d = false ∧
      (b.service = none ∧ (s.col d.other).state ≠ .inService ∧ (d = s.sfu.pref ∨ (s.col d.other).state ≠ .fresh ∨
        s.listed d.other = true) ∨ b.service = some d.other ∧ (s.col d.other).holdPending = true ∧
          (s.col d.other).state = .inService) ∧
      ((s.col d).residue + r.hRaw * 1000) / r.k < (s.col d).remaining ∧
      ((if d = .a then compA else compB) = false ∨ (s.col d).btRun < 15)) ∧
    (∃ (compA : Bool) (compB : Bool) (r : FillRecord) (b : Blend) (d : Column) (s : State),
      s.wpu.grant = some .fill ∧ s.wpu.fillRec = some r ∧ s.sfu.blend = some b ∧ r.pulses % 32 = 0 ∧ b.nb = 0 ∧
      r.pulses + 1 < r.targetPulses ∧ 0 < r.k ∧ (s.col d).state = .fresh ∧ s.listed d = false ∧
      (b.service = none ∧ (s.col d.other).state ≠ .inService ∧ (d = s.sfu.pref ∨ (s.col d.other).state ≠ .fresh ∨
        s.listed d.other = true) ∨ b.service = some d.other ∧ (s.col d.other).holdPending = true ∧
          (s.col d.other).state = .inService) ∧
      ((s.col d).residue + r.hRaw * 1000) / r.k < (s.col d).remaining ∧
      ((if d = .a then compA else compB) = false ∨ (s.col d).btRun < 15)) ∧
    (∃ (r : FillRecord) (b : Blend) (c : Column) (a : ActivePhase) (s : State),
      s.wpu.grant = some .fill ∧ s.wpu.fillRec = some r ∧ s.sfu.blend = some b ∧ r.pulses % 32 = 0 ∧ b.nb < 32 ∧
      r.pulses + 1 < r.targetPulses ∧ s.cdu.mode = .run ∧ s.wsc.wash = .running ∧ s.wsc.active = some a ∧ a.stage = .fill ∧
      s.wpu.waitFill = none ∧ s.wpu.waitRegen = none ∧ s.wpu.waitTest = none ∧ b.service = some c ∧ b.hardFill = false ∧
      (s.col c).holdPending = true ∧ (s.col c).state = .inService ∧ (s.col c.other).state ≠ .inService ∧
      ((s.col c.other).state = .fresh → s.listed c.other = true) ∧
      (hasCondition s.cdu.traps .hardFill ∨ a.record.softRequired = true)) ∧
    (∃ (r : FillRecord) (b : Blend) (c : Column) (a : ActivePhase) (s : State),
      s.wpu.grant = some .fill ∧ s.wpu.fillRec = some r ∧ s.sfu.blend = some b ∧ r.pulses % 32 = 0 ∧ b.nb < 32 ∧
      r.pulses + 1 < r.targetPulses ∧ s.cdu.mode = .run ∧ s.wsc.wash = .running ∧ s.wsc.active = some a ∧ a.stage = .fill ∧
      s.wpu.waitFill = none ∧ s.wpu.waitRegen = none ∧ s.wpu.waitTest = none ∧ b.service = some c ∧ b.hardFill = false ∧
      (s.col c).holdPending = true ∧ (s.col c).state = .inService ∧ (s.col c.other).state ≠ .inService ∧
      ((s.col c.other).state = .fresh → s.listed c.other = true) ∧ ¬hasCondition s.cdu.traps .hardFill ∧
      a.record.softRequired = false) ∧
    (∃ (a : ActivePhase) (c : Column) (s : State),
      s.cdu.mode = .run ∧ s.wsc.wash = .running ∧ s.wsc.active = some a ∧ a.stage = .fill ∧ s.wpu.grant = some .fill ∧
      s.wpu.waitRegen = none ∧ s.wpu.waitTest = none ∧ (s.col c).holdPending = true ∧ (s.col c).state = .inService ∧
      (s.col c.other).holdPending = false) :=
  ⟨⟨inStage .fill, fillOf 40 200, blending,
   { inHold (inStage .fill) with
     wpu.fillRec := some (fillOf 40 200), sfu.blend := some blending, sfu.settings.automatic := false,
     sfu.colB.state := .inService },
   .b, by decide⟩,
   ⟨inStage .fill, fillOf 40 200, blending,
   { inHold (inStage .fill) with
     wpu.fillRec := some (fillOf 40 200), sfu.blend := some blending, sfu.settings.automatic := false, sfu.pref := .b },
   .b, by decide⟩,
   ⟨inStage .fill, fillOf 40 200, blending,
   { inHold (inStage .fill) with
     wpu.fillRec := some (fillOf 40 200), sfu.blend := some blending, sfu.settings.automatic := false, sfu.colA.state := .held },
   .b, by decide⟩,
   ⟨inStage .fill, fillOf 40 200, blending,
   { inHold (inStage .fill) with
     wpu.fillRec := some (fillOf 40 200), sfu.blend := some blending, sfu.settings.automatic := false, sfu.colA.state := .held,
     sfu.colB.state := .held, cdu.traps := Condition.hardFill.mask },
   by intro c; cases c <;> decide, by decide⟩,
   ⟨{ inStage .fill with record := { mainPhase with softRequired := true } }, fillOf 40 200, blending,
   { inHold { inStage .fill with record := { mainPhase with softRequired := true } } with
     wpu.fillRec := some (fillOf 40 200), sfu.blend := some blending, sfu.settings.automatic := false, sfu.colA.state := .held,
     sfu.colB.state := .held },
   by intro c; cases c <;> decide, by decide⟩,
   ⟨inStage .fill, fillOf 40 200, blending,
   { inHold (inStage .fill) with
     wpu.fillRec := some (fillOf 40 200), sfu.blend := some blending, sfu.settings.automatic := false, sfu.colA.state := .held,
     sfu.colB.state := .held },
   by intro c; cases c <;> decide, by decide⟩,
   ⟨fillOf 32 200, { blending with service := none },
   { filling (fillOf 32 200) { blending with service := none } with sfu.colA.state := .exhausted }, .b, Or.inl (by decide),
   by decide⟩,
   ⟨fillOf 32 200, { blending with service := none, hardFill := true },
   { filling (fillOf 32 200) { blending with service := none, hardFill := true } with
     sfu.colA.state := .held, sfu.colB.state := .held },
   Or.inl (by decide), by intro c; cases c <;> decide, by decide⟩,
   ⟨fillOf 32 200, ⟨0, none, false, true⟩,
   { filling (fillOf 32 200) ⟨0, none, false, true⟩ with sfu.colA.state := .held, sfu.colB.state := .held },
   Or.inr ⟨rfl, by intro c; cases c <;> decide⟩, by intro c; cases c <;> decide, by decide⟩,
   ⟨fillOf 32 200, blending, { blendFill 32 with sfu.colA.holdPending := true }, .a, Or.inl (by decide), by decide⟩,
   ⟨false, false, fillOf 32 200, ⟨0, none, false, false⟩, .a,
   { filling (fillOf 32 200) ⟨0, none, false, false⟩ with sfu.colA.remaining := 401, sfu.colB.state := .held }, by decide⟩,
   ⟨false, false, fillOf 32 200, ⟨0, some .b, false, false⟩, .a,
   { filling (fillOf 32 200) ⟨0, some .b, false, false⟩ with
     sfu.colA.remaining := 401, sfu.colB.state := .inService, sfu.colB.holdPending := true },
   by decide⟩,
   ⟨fillOf 32 200, blending, .a, inStage .fill,
   { blendFill 32 with sfu.colA.holdPending := true, sfu.colB.state := .held, cdu.traps := Condition.hardFill.mask },
   by decide⟩,
   ⟨fillOf 32 200, blending, .a, inStage .fill, { blendFill 32 with sfu.colA.holdPending := true, sfu.colB.state := .held },
   by decide⟩,
   ⟨inStage .fill, .a, { blendFill 40 with sfu.colA.holdPending := true }, by decide⟩⟩

theorem test_fillLimitExpires_premises :
    (∃ (s : State), (s.wpu.grant ≠ some .fill ∨ s.wpu.valveOpen = false)) ∧
    (∃ (r : FillRecord) (s : State),
      s.wpu.fillRec = some r ∧
      s.wpu.fillMs < (if r.limitCode = 0 then 60 else if r.limitCode = 1 then 120 else if r.limitCode = 2 then 180 else
        300) * 1000) ∧
    (∃ (r : FillRecord) (a : ActivePhase) (s : State),
      s.wpu.grant = some .fill ∧ s.wpu.valveOpen = true ∧ s.wpu.fillRec = some r ∧
      (if r.limitCode = 0 then 60 else if r.limitCode = 1 then 120 else if r.limitCode = 2 then 180 else
        300) * 1000 ≤ s.wpu.fillMs ∧
      s.cdu.mode = .run ∧ s.wsc.wash = .running ∧ s.wsc.active = some a ∧ a.stage = .fill ∧ s.wpu.waitFill = none ∧
      hasCondition s.cdu.traps .fillSlow) ∧
    (∃ (r : FillRecord) (a : ActivePhase) (s : State),
      s.wpu.grant = some .fill ∧ s.wpu.valveOpen = true ∧ s.wpu.fillRec = some r ∧
      (if r.limitCode = 0 then 60 else if r.limitCode = 1 then 120 else if r.limitCode = 2 then 180 else
        300) * 1000 ≤ s.wpu.fillMs ∧
      s.cdu.mode = .run ∧ s.wsc.wash = .running ∧ s.wsc.active = some a ∧ a.stage = .fill ∧ s.wpu.waitFill = none ∧
      ¬hasCondition s.cdu.traps .fillSlow ∧ r.pulses * 2 < r.targetPulses) ∧
    (∃ (r : FillRecord) (a : ActivePhase) (s : State),
      s.wpu.grant = some .fill ∧ s.wpu.valveOpen = true ∧ s.wpu.fillRec = some r ∧
      (if r.limitCode = 0 then 60 else if r.limitCode = 1 then 120 else if r.limitCode = 2 then 180 else
        300) * 1000 ≤ s.wpu.fillMs ∧
      s.cdu.mode = .run ∧ s.wsc.wash = .running ∧ s.wsc.active = some a ∧ a.stage = .fill ∧ s.wpu.waitFill = none ∧
      ¬hasCondition s.cdu.traps .fillSlow ∧ r.targetPulses ≤ r.pulses * 2) :=
  ⟨⟨atRest, by decide⟩,
   ⟨fillOf 749 0, { filling (fillOf 749 0) bypassing with wpu.fillMs := 119999 }, by decide⟩,
   ⟨fillOf 749 0, inStage .fill, { filling (fillOf 749 0) bypassing with wpu.fillMs := 120000, cdu.traps := 4 }, by decide⟩,
   ⟨fillOf 749 0, inStage .fill, { filling (fillOf 749 0) bypassing with wpu.fillMs := 120000 }, by decide⟩,
   ⟨fillOf 750 0, inStage .fill, { filling (fillOf 750 0) bypassing with wpu.fillMs := 120000 }, by decide⟩⟩

theorem test_drainEnds_premises :
    (∃ (s : State), ((∀ d, s.wpu.drain = some d → d.emptyMs < 8000) ∨ s.wpu.waterPresent = true)) ∧
    (∃ (s : State), (∃ d, s.wpu.drain = some d ∧ 8000 ≤ d.emptyMs) ∧ s.wpu.waterPresent = false ∧ s.wsc.abortDrain = true) ∧
    (∃ (a : ActivePhase) (x : ProgramContext) (s : State),
      (∃ d, s.wpu.drain = some d ∧ 8000 ≤ d.emptyMs) ∧ s.wpu.waterPresent = false ∧ s.wsc.abortDrain = false ∧
      s.wsc.active = some a ∧ s.wsc.wash = .running ∧ a.stage = .drain ∧ s.cdu.mode = .run ∧ s.wsc.queue = [] ∧
      s.wsc.ctx = some x) ∧
    (∃ (s : State), (∀ d, s.wpu.drain = some d → d.limitMs < 90000)) ∧
    (∃ (s : State),
      (∃ d, s.wpu.drain = some d ∧ 90000 ≤ d.limitMs) ∧ s.cdu.mode = .run ∧ s.wsc.wash = .running ∧ s.wsc.active ≠ none) ∧
    (∃ (s : State), (∃ d, s.wpu.drain = some d ∧ 90000 ≤ d.limitMs) ∧ s.cdu.mode = .standby) ∧
    (∃ (a : ActivePhase) (p : PhaseRecord) (rest : List PhaseRecord) (s : State),
      (∃ d, s.wpu.drain = some d ∧ 8000 ≤ d.emptyMs) ∧ s.wpu.waterPresent = false ∧ s.wsc.abortDrain = false ∧
      s.wsc.active = some a ∧ s.wsc.wash = .running ∧ a.stage = .drain ∧ s.cdu.mode = .run ∧ s.wsc.queue = p :: rest ∧
      p.kind.isWater = true ∧ s.doorClass = .closed ∧ s.dru.latched = true ∧ s.sfu.run = none ∧ s.wpu.grant = none ∧
      s.wpu.inhibit = false ∧ s.wpu.fillRec = none ∧ s.wpu.settings.hRaw ≤ s.wpu.settings.hT) :=
  ⟨⟨{ atRest with wpu.drain := some ⟨60000, 7999⟩ }, Or.inl (by rintro _ ⟨⟩; decide)⟩,
   ⟨{ atRest with wpu.drain := some ⟨60000, 8000⟩, wsc.abortDrain := true }, ⟨_, rfl, by decide⟩, by decide⟩,
   ⟨inStage .drain, ⟨none, false, 0⟩, { inRun (inStage .drain) with wpu.drain := some ⟨60000, 8000⟩, wpu.drainPump := true },
   ⟨_, rfl, by decide⟩, by decide⟩,
   ⟨{ atRest with wpu.drain := some ⟨89999, 0⟩ }, by rintro _ ⟨⟩; decide⟩,
   ⟨{ inRun (inStage .drain) with wpu.drain := some ⟨90000, 0⟩, wpu.drainPump := true }, ⟨_, rfl, by decide⟩, by decide⟩,
   ⟨{ atRest with wpu.drain := some ⟨90000, 0⟩, wpu.drainPump := true }, ⟨_, rfl, by decide⟩, by decide⟩,
   ⟨inStage .drain, mainPhase, [dryPhase],
   { inRun (inStage .drain) with
     wpu.drain := some ⟨60000, 8000⟩, wpu.drainPump := true, wsc.queue := [mainPhase, dryPhase], wpu.settings.hRaw := 40 },
   ⟨_, rfl, by decide⟩, by decide⟩⟩

theorem test_regenerationStagesEnd_premises :
    (∃ (r : RunRecord) (n : Nat) (k : Nat) (s : State),
      s.wpu.grant = some .regen ∧ s.sfu.run = some r ∧ r.outcome = none ∧ r.stage = .running .brine ∧ r.stagePulses = some n ∧
      r.stageK = some k ∧ 0 < k ∧ r.targetPulses = some (n + 1) ∧ s.wpu.inhibit = false ∧ s.wpu.waitFill = none ∧
      s.wpu.waitRegen = none ∧ s.wpu.waitTest = none ∧ s.spt.salt.tracked = false) ∧
    (∃ (r : RunRecord) (n : Nat) (k : Nat) (s : State),
      s.wpu.grant = some .regen ∧ s.sfu.run = some r ∧ r.outcome = none ∧ r.stage = .running .brine ∧ r.stagePulses = some n ∧
      r.stageK = some k ∧ 0 < k ∧ r.targetPulses = some (n + 1) ∧ s.wpu.inhibit = false ∧ s.wpu.waitFill = none ∧
      s.wpu.waitRegen = none ∧ s.wpu.waitTest = none ∧ s.spt.salt.tracked = true) ∧
    (∃ (r : RunRecord) (s : State),
      s.wpu.grant = some .regen ∧ s.sfu.run = some r ∧ r.outcome = none ∧ r.stage = .running .slowRinse ∧
      r.slow * 1000 ≤ r.stageMs ∧ s.wpu.inhibit = false ∧ s.wpu.waitFill = none ∧ s.wpu.waitRegen = none ∧
      s.wpu.waitTest = none) ∧
    (∃ (s : State),
      (∀ r, s.sfu.run = some r → r.outcome ≠ none ∨ r.stage ≠ .running .slowRinse ∨ r.stageMs < r.slow * 1000)) ∧
    (∃ (r : RunRecord) (n : Nat) (e : RegenEntry) (s : State),
      s.wpu.grant = some .regen ∧ s.sfu.run = some r ∧ r.outcome = none ∧ r.stage = .running .fastRinse ∧
      r.stagePulses = some n ∧ r.targetPulses = some (n + 1) ∧ s.wpu.waitFill = none ∧ s.wpu.waitRegen = none ∧
      s.wpu.waitTest = none ∧ s.sfu.list = [e] ∧ (s.col r.column).state = .regenerating) ∧
    (∃ (r : RunRecord) (e : RegenEntry) (s : State),
      s.wpu.grant = some .regen ∧ s.sfu.run = some r ∧ r.outcome = none ∧
      (r.stage = .running .brine ∧ 120000 ≤ r.stageMs ∨ r.stage = .running .fastRinse ∧ 180000 ≤ r.stageMs) ∧
      s.sfu.list = [e] ∧ s.wpu.waitFill = none ∧ s.wpu.waitRegen = none ∧ s.wpu.waitTest = none ∧
      (s.col r.column).state = .regenerating ∧ r.stage = .running .fastRinse) ∧
    (∃ (r : RunRecord) (e : RegenEntry) (s : State) (n : _) (k : _),
      s.wpu.grant = some .regen ∧ s.sfu.run = some r ∧ r.outcome = none ∧
      (r.stage = .running .brine ∧ 120000 ≤ r.stageMs ∨ r.stage = .running .fastRinse ∧ 180000 ≤ r.stageMs) ∧
      s.sfu.list = [e] ∧ s.wpu.waitFill = none ∧ s.wpu.waitRegen = none ∧ s.wpu.waitTest = none ∧
      (s.col r.column).state = .regenerating ∧ r.stage = .running .brine ∧ r.stagePulses = some n ∧ r.stageK = some k ∧
      s.spt.salt.tracked = true) ∧
    (∃ (s : State),
      (∀ r, s.sfu.run = some r → r.outcome ≠ none ∨ (r.stage = .running .brine → r.stageMs < 120000) ∧
        (r.stage = .running .fastRinse → r.stageMs < 180000))) ∧
    (∃ (s : State),
      (∀ r, s.sfu.run = some r → r.outcome ≠ none ∨ (r.stage = .running .brine → r.stageMs < 120000) ∧
        (r.stage = .running .fastRinse → r.stageMs < 180000))) :=
  ⟨⟨runIn (.running .brine), 149, 500, regenerating (.running .brine), by decide⟩,
   ⟨runIn (.running .brine), 149, 500,
   { regenerating (.running .brine) with spt.salt.tracked := true, spt.salt.estimate := 89 }, by decide⟩,
   ⟨runIn (.running .slowRinse), regenerating (.running .slowRinse), by decide⟩,
   ⟨regenerating (.running .brine), by rintro _ ⟨⟩; decide⟩,
   ⟨runIn (.running .fastRinse), 149, ⟨.a, false⟩, regenerating (.running .fastRinse), by decide⟩,
   ⟨{ runIn (.running .fastRinse) with stageMs := 180000 }, ⟨.a, false⟩,
   { regenerating (.running .fastRinse) with sfu.run := some { runIn (.running .fastRinse) with stageMs := 180000 } },
   by decide⟩,
   ⟨{ runIn (.running .brine) with stageMs := 120000 }, ⟨.a, false⟩,
   { regenerating (.running .brine) with
     spt.salt.tracked := true, sfu.run := some { runIn (.running .brine) with stageMs := 120000 } },
   149, 500, by decide⟩,
   ⟨{ regenerating (.running .brine) with sfu.run := some { runIn (.running .brine) with stageMs := 119999 } },
   by rintro _ ⟨⟩; decide⟩,
   ⟨regenerating (.running .slowRinse), by rintro _ ⟨⟩; decide⟩⟩

theorem test_regenerationFollowsTheModes_premises :
    (∃ (r : RunRecord) (c : Column) (rest : List RegenEntry) (s : State),
      s.cdu.mode ≠ .safe ∧ s.wpu.overfillClosed = false ∧ s.sfu.run = some r ∧ r.outcome = none ∧ r.column = c ∧
      s.sfu.list = ⟨c, false⟩ :: rest ∧ r.stage ≠ .waitWindow ∧ r.stage ≠ .done ∧ (s.col c).state ≠ .regenerating ∧
      (s.col c).holdPending = false ∧ r.stage ≠ .running .brine) ∧
    (∃ (r : RunRecord) (c : Column) (rest : List RegenEntry) (s : State),
      s.cdu.mode ≠ .safe ∧ s.wpu.overfillClosed = false ∧ s.sfu.run = some r ∧ r.outcome = none ∧ r.column = c ∧
      s.sfu.list = ⟨c, false⟩ :: rest ∧ r.stage ≠ .waitWindow ∧ r.stage ≠ .done ∧ (s.col c).state = .regenerating ∧
      (s.col c).holdPending = false ∧ r.stage ≠ .running .brine) ∧
    (∃ (r : RunRecord) (c : Column) (rest : List RegenEntry) (s : State) (n : _) (k : _),
      s.cdu.mode ≠ .safe ∧ s.wpu.overfillClosed = false ∧ s.sfu.run = some r ∧ r.outcome = none ∧ r.column = c ∧
      s.sfu.list = ⟨c, false⟩ :: rest ∧ r.stage ≠ .waitWindow ∧ r.stage ≠ .done ∧ (s.col c).state = .regenerating ∧
      (s.col c).holdPending = false ∧ r.stage = .running .brine ∧ r.stagePulses = some n ∧ r.stageK = some k ∧
      s.spt.salt.tracked = true) ∧
    (∃ (r : RunRecord) (s : State),
      s.cdu.mode ≠ .safe ∧ s.wpu.overfillClosed = false ∧ s.sfu.run = some r ∧ r.outcome = none ∧ r.stage = .waitWindow) ∧
    (∃ (c : Column) (restart : Bool) (rest : List RegenEntry) (s : State),
      (∀ r, s.sfu.run = some r → r.outcome ≠ none) ∧ s.cdu.mode = .safe ∧ (∀ x ∈ s.cdu.safeSet, s.activeTest x = false) ∧
      s.wpu.grant = none ∧ s.wsc.wash = .idle ∧ s.sfu.list = ⟨c, restart⟩ :: rest) ∧
    (∃ (c : Column) (rest : List RegenEntry) (s : State),
      (∀ a, s.wsc.active = some a → a.record.kind ≠ .dry) ∧ (∀ r, s.sfu.run = some r → r.outcome ≠ none) ∧
      s.cdu.mode = .safe ∧ (∀ x ∈ s.cdu.safeSet, s.activeTest x = false) ∧ s.wpu.grant = none ∧ s.wsc.wash = .held ∧
      s.sfu.settings.window = .quiet ∧ s.sfu.list = ⟨c, true⟩ :: rest) ∧
    (∃ (c : Column) (rest : List RegenEntry) (s : State),
      (∀ a, s.wsc.active = some a → a.record.kind ≠ .dry) ∧ (∀ r, s.sfu.run = some r → r.outcome ≠ none) ∧
      s.cdu.mode = .safe ∧ (∀ x ∈ s.cdu.safeSet, s.activeTest x = false) ∧ s.wpu.grant = none ∧ s.wsc.wash = .held ∧
      s.sfu.settings.window = .quiet ∧ s.sfu.list = ⟨c, false⟩ :: rest) ∧
    (∃ (c : Column) (r : RunRecord) (s : State),
      s.sfu.run = some r ∧ r.outcome = none ∧ r.column = c ∧ (r.stage = .waitWindow ∨ r.stage = .waitInlet .brine) ∧
      s.sfu.list = [⟨c, false⟩] ∧ ((s.col c).state = .fresh ∨ (s.col c).state = .exhausted) ∧ s.grantedRoute ≠ some c) ∧
    (∃ (c : Column) (r : RunRecord) (s : State),
      s.sfu.run = some r ∧ r.outcome = none ∧ r.column = c ∧ (r.stage = .waitWindow ∨ r.stage = .waitInlet .brine) ∧
      s.sfu.list = [⟨c, false⟩] ∧ ((s.col c).state = .fresh ∨ (s.col c).state = .exhausted) ∧ s.grantedRoute ≠ some c) ∧
    (∃ (r : RunRecord) (a : ActivePhase) (s : State),
      s.sfu.run = some r ∧ r.outcome = none ∧ r.stage = .waitWindow ∧ r.window = .quiet ∧ s.cdu.mode = .run ∧
      s.wsc.active = some a ∧ s.wpu.grant = none ∧ s.wpu.inhibit = false ∧ a.stage ≠ .fill ∧ s.wpu.fillRec = none ∧
      s.wpu.waitFill = none) ∧
    (∃ (r : RunRecord) (a : ActivePhase) (s : State),
      s.sfu.run = some r ∧ r.outcome = none ∧ r.stage = .waitWindow ∧ r.window = .quiet ∧ s.cdu.mode = .run ∧
      s.wsc.active = some a ∧ s.wpu.grant = none ∧ s.wpu.inhibit = false ∧ a.record.kind ≠ .dry ∧ s.wsc.wash = .running ∧
      a.stage ≠ .done) ∧
    (∃ (r : RunRecord) (a : ActivePhase) (s : State) (p : _) (rest : _) (x : _),
      (∃ d, s.wpu.drain = some d ∧ 8000 ≤ d.emptyMs) ∧ s.sfu.run = some r ∧ r.outcome = none ∧ r.stage = .waitWindow ∧
      r.window = .quiet ∧ s.cdu.mode = .run ∧ s.wsc.active = some a ∧ s.wpu.grant = none ∧ s.wpu.inhibit = false ∧
      a.stage = .drain ∧ s.wsc.wash = .running ∧ s.wpu.waterPresent = false ∧ s.wsc.abortDrain = false ∧
      s.wsc.queue = p :: rest ∧ p.kind = .dry ∧ s.doorClass = .closed ∧ s.wsc.ctx = some x) :=
  ⟨⟨runIn (.waitInlet .brine), .a, [], { atRest with sfu.run := some (runIn (.waitInlet .brine)), sfu.list := [⟨.a, false⟩] },
   by decide⟩,
   ⟨runIn (.running .fastRinse), .a, [], regenerating (.running .fastRinse), by decide⟩,
   ⟨runIn (.running .brine), .a, [], { regenerating (.running .brine) with spt.salt.tracked := true }, 149, 500, by decide⟩,
   ⟨runIn .waitWindow, { atRest with sfu.run := some (runIn .waitWindow) }, by decide⟩,
   ⟨.a, true, [], { inSafe with sfu.list := [⟨.a, true⟩] }, by rintro _ ⟨⟩, by decide⟩,
   ⟨.a, [], { inHold (inStage .heat) with cdu.mode := .safe, sfu.settings.window := .quiet, sfu.list := [⟨.a, true⟩] },
   by rintro _ ⟨⟩; decide, by rintro _ ⟨⟩, by decide⟩,
   ⟨.a, [], { inHold (inStage .heat) with cdu.mode := .safe, sfu.settings.window := .quiet, sfu.list := [⟨.a, false⟩] },
   by rintro _ ⟨⟩; decide, by rintro _ ⟨⟩, by decide⟩,
   ⟨.b, { runIn .waitWindow with column := .b },
   { atRest with sfu.run := some { runIn .waitWindow with column := .b }, sfu.list := [⟨.b, false⟩], sfu.colB.state := .exhausted },
   by decide⟩,
   ⟨.b, { runIn (.waitInlet .brine) with column := .b },
   { atRest with
     sfu.run := some { runIn (.waitInlet .brine) with column := .b }, sfu.list := [⟨.b, false⟩], sfu.colB.state := .exhausted },
   by decide⟩,
   ⟨{ runIn .waitWindow with window := .quiet }, inStage .heat,
   { inRun (inStage .heat) with sfu.run := some { runIn .waitWindow with window := .quiet }, sfu.list := [⟨.a, false⟩] },
   by decide⟩,
   ⟨{ runIn .waitWindow with window := .quiet }, inStage .heat,
   { inRun (inStage .heat) with sfu.run := some { runIn .waitWindow with window := .quiet }, sfu.list := [⟨.a, false⟩] },
   by decide⟩,
   ⟨{ runIn .waitWindow with window := .quiet }, inStage .drain,
   { inRun (inStage .drain) with
     sfu.run := some { runIn .waitWindow with window := .quiet }, sfu.list := [⟨.a, false⟩], wpu.drain := some ⟨60000, 8000⟩,
     wsc.queue := [dryPhase], wsc.ctx := some ⟨none, true, 0⟩ },
   dryPhase, [], ⟨none, true, 0⟩, ⟨_, rfl, by decide⟩, by decide⟩⟩

theorem test_reservoirSwitchesSettle_premises :
    (∃ (e : Entry) (s : State), (s.entry e).capOpen = false ∧ (s.entry e).low = false) ∧
    (∃ (e : Entry) (s : State), (s.entry e).capOpen = true ∧ (s.entry e).low = true) ∧
    (∃ (e : Entry) (s : State) (cmd : Instr) (r : SupplyEntry) (x : _),
      ((cmd = .capOpen e ∧ (s.entry e).capOpen = false ∧ r = { s.entry e with capOpen := true }) ∨ (cmd = .capClose e ∧
        (s.entry e).capOpen = true ∧ (s.entry e).low = false ∧
          r = { s.entry e with
            capOpen := false, estimate := (s.entry e).capacity, tracked := true, refills := min 255 ((s.entry e).refills + 1) }) ∨
              (cmd = .capClose e ∧ (s.entry e).capOpen = true ∧ (s.entry e).low = true ∧
                r = { s.entry e with
                  capOpen := false,
                  estimate := if (s.entry e).tracked = true then min (s.entry e).estimate (s.entry e).lowMark else
                    (s.entry e).estimate }) ∨ (cmd = .lowSwitchLow e ∧ (s.entry e).low = false ∧
                      r = { s.entry e with
                        low := true, tracked := true,
                        estimate := if (s.entry e).tracked = true then min (s.entry e).estimate (s.entry e).lowMark else
                          (s.entry e).lowMark }) ∨ (cmd = .lowSwitchNotLow e ∧ (s.entry e).low = true ∧
                            r = { s.entry e with low := false })) ∧
      x ≠ e ∧ r.state ≠ (s.entry e).state) ∧
    (∃ (e : Entry) (s : State) (cmd : Instr) (r : SupplyEntry),
      ((cmd = .capOpen e ∧ (s.entry e).capOpen = false ∧ r = { s.entry e with capOpen := true }) ∨ (cmd = .capClose e ∧
        (s.entry e).capOpen = true ∧ (s.entry e).low = false ∧
          r = { s.entry e with
            capOpen := false, estimate := (s.entry e).capacity, tracked := true, refills := min 255 ((s.entry e).refills + 1) }) ∨
              (cmd = .capClose e ∧ (s.entry e).capOpen = true ∧ (s.entry e).low = true ∧
                r = { s.entry e with
                  capOpen := false,
                  estimate := if (s.entry e).tracked = true then min (s.entry e).estimate (s.entry e).lowMark else
                    (s.entry e).estimate }) ∨ (cmd = .lowSwitchLow e ∧ (s.entry e).low = false ∧
                      r = { s.entry e with
                        low := true, tracked := true,
                        estimate := if (s.entry e).tracked = true then min (s.entry e).estimate (s.entry e).lowMark else
                          (s.entry e).lowMark }) ∨ (cmd = .lowSwitchNotLow e ∧ (s.entry e).low = true ∧
                            r = { s.entry e with low := false })) ∧
      r.state ≠ (s.entry e).state) ∧
    (∃ (e : Entry) (s : State) (cmd : Instr) (r : SupplyEntry),
      ((cmd = .capOpen e ∧ (s.entry e).capOpen = false ∧ r = { s.entry e with capOpen := true }) ∨ (cmd = .capClose e ∧
        (s.entry e).capOpen = true ∧ (s.entry e).low = false ∧
          r = { s.entry e with
            capOpen := false, estimate := (s.entry e).capacity, tracked := true, refills := min 255 ((s.entry e).refills + 1) }) ∨
              (cmd = .capClose e ∧ (s.entry e).capOpen = true ∧ (s.entry e).low = true ∧
                r = { s.entry e with
                  capOpen := false,
                  estimate := if (s.entry e).tracked = true then min (s.entry e).estimate (s.entry e).lowMark else
                    (s.entry e).estimate }) ∨ (cmd = .lowSwitchLow e ∧ (s.entry e).low = false ∧
                      r = { s.entry e with
                        low := true, tracked := true,
                        estimate := if (s.entry e).tracked = true then min (s.entry e).estimate (s.entry e).lowMark else
                          (s.entry e).lowMark }) ∨ (cmd = .lowSwitchNotLow e ∧ (s.entry e).low = true ∧
                            r = { s.entry e with low := false })) ∧
      r.state ≠ (s.entry e).state) ∧
    (∃ (e : Entry) (s : State) (cmd : Instr) (r : SupplyEntry),
      ((cmd = .capOpen e ∧ (s.entry e).capOpen = false ∧ r = { s.entry e with capOpen := true }) ∨ (cmd = .capClose e ∧
        (s.entry e).capOpen = true ∧ (s.entry e).low = false ∧
          r = { s.entry e with
            capOpen := false, estimate := (s.entry e).capacity, tracked := true, refills := min 255 ((s.entry e).refills + 1) }) ∨
              (cmd = .capClose e ∧ (s.entry e).capOpen = true ∧ (s.entry e).low = true ∧
                r = { s.entry e with
                  capOpen := false,
                  estimate := if (s.entry e).tracked = true then min (s.entry e).estimate (s.entry e).lowMark else
                    (s.entry e).estimate }) ∨ (cmd = .lowSwitchLow e ∧ (s.entry e).low = false ∧
                      r = { s.entry e with
                        low := true, tracked := true,
                        estimate := if (s.entry e).tracked = true then min (s.entry e).estimate (s.entry e).lowMark else
                          (s.entry e).lowMark }) ∨ (cmd = .lowSwitchNotLow e ∧ (s.entry e).low = true ∧
                            r = { s.entry e with low := false })) ∧
      r.state = (s.entry e).state) ∧
    (∃ (e : Entry) (s : State) (cmd : Instr) (r : SupplyEntry),
      ((cmd = .capOpen e ∧ (s.entry e).capOpen = false ∧ r = { s.entry e with capOpen := true }) ∨ (cmd = .capClose e ∧
        (s.entry e).capOpen = true ∧ (s.entry e).low = false ∧
          r = { s.entry e with
            capOpen := false, estimate := (s.entry e).capacity, tracked := true, refills := min 255 ((s.entry e).refills + 1) }) ∨
              (cmd = .capClose e ∧ (s.entry e).capOpen = true ∧ (s.entry e).low = true ∧
                r = { s.entry e with
                  capOpen := false,
                  estimate := if (s.entry e).tracked = true then min (s.entry e).estimate (s.entry e).lowMark else
                    (s.entry e).estimate }) ∨ (cmd = .lowSwitchLow e ∧ (s.entry e).low = false ∧
                      r = { s.entry e with
                        low := true, tracked := true,
                        estimate := if (s.entry e).tracked = true then min (s.entry e).estimate (s.entry e).lowMark else
                          (s.entry e).lowMark }) ∨ (cmd = .lowSwitchNotLow e ∧ (s.entry e).low = true ∧
                            r = { s.entry e with low := false })) ∧
      r.state = (s.entry e).state) :=
  ⟨⟨.salt, atRest, by decide⟩,
   ⟨.salt, { atRest with spt.salt.capOpen := true, spt.salt.low := true }, by decide⟩,
   ⟨.salt, atRest, .capOpen .salt, ⟨1200, 0, 150, 0, false, true, false, 0⟩, .detergent, Or.inl ⟨rfl, rfl, rfl⟩, by decide⟩,
   ⟨.salt, { atRest with spt.salt.capOpen := true, spt.salt.refills := 255 }, .capClose .salt,
   ⟨1200, 1200, 150, 0, true, false, false, 255⟩, Or.inr (Or.inl ⟨rfl, rfl, rfl, rfl⟩), by decide⟩,
   ⟨.salt, { atRest with spt.salt.capOpen := true, spt.salt.low := true, spt.salt.tracked := true, spt.salt.estimate := 151 },
   .capClose .salt, ⟨1200, 150, 150, 0, true, false, true, 0⟩, Or.inr (Or.inr (Or.inl ⟨rfl, rfl, rfl, rfl⟩)), by decide⟩,
   ⟨.salt, { atRest with spt.salt.tracked := true, spt.salt.estimate := 150 }, .lowSwitchLow .salt,
   ⟨1200, 150, 150, 0, true, false, true, 0⟩, Or.inr (Or.inr (Or.inr (Or.inl ⟨rfl, rfl, rfl⟩))), by decide⟩,
   ⟨.salt, { atRest with spt.salt.low := true }, .lowSwitchNotLow .salt, ⟨1200, 0, 150, 0, false, false, false, 0⟩,
   Or.inr (Or.inr (Or.inr (Or.inr (⟨rfl, rfl, rfl⟩)))), by decide⟩⟩

theorem test_dosesAreComputed_premises :
    (∃ (r : FillRecord) (b : Blend) (a : ActivePhase) (g : Agent) (base : Nat) (x : ProgramContext) (s : State),
      s.wpu.grant = some .fill ∧ s.wpu.fillRec = some r ∧ s.sfu.blend = some b ∧ b.nb = 32 ∧ b.service = none ∧
      r.targetPulses ≤ r.pulses + 1 ∧ s.wpu.waitFill = none ∧ s.wpu.waitRegen = none ∧ s.wpu.waitTest = none ∧
      s.cdu.mode = .run ∧ s.wsc.active = some a ∧ s.wsc.wash = .running ∧ a.stage = .fill ∧ 0 < a.target ∧
      s.wsc.ctx = some x ∧ s.dsu.live = [] ∧ s.dsu.ended = [] ∧ s.dsu.curve.points.toList.Pairwise (fun p q => p.1 < q.1) ∧
      (g = .detergent ∧ a.record.detergent = some base ∧ a.record.additive = none ∨ g = .additive ∧ a.record.additive = some base ∧
        a.record.detergent = none)) ∧
    (∃ (r : FillRecord) (b : Blend) (a : ActivePhase) (g : Agent) (base : Nat) (x : ProgramContext) (s : State),
      s.wpu.grant = some .fill ∧ s.wpu.fillRec = some r ∧ s.sfu.blend = some b ∧ b.nb = 32 ∧ b.service = none ∧
      r.targetPulses ≤ r.pulses + 1 ∧ s.wpu.waitFill = none ∧ s.wpu.waitRegen = none ∧ s.wpu.waitTest = none ∧
      s.cdu.mode = .run ∧ s.wsc.active = some a ∧ s.wsc.wash = .running ∧ a.stage = .fill ∧ 0 < a.target ∧
      s.wsc.ctx = some x ∧ s.dsu.live = [] ∧ s.dsu.ended = [] ∧ s.dsu.curve.points.toList.Pairwise (fun p q => p.1 < q.1) ∧
      (g = .detergent ∧ a.record.detergent = some base ∧ a.record.additive = none ∨ g = .additive ∧ a.record.additive = some base ∧
        a.record.detergent = none)) ∧
    (∃ (r : FillRecord) (b : Blend) (a : ActivePhase) (g : Agent) (base : Nat) (x : ProgramContext) (s : State),
      s.wpu.grant = some .fill ∧ s.wpu.fillRec = some r ∧ s.sfu.blend = some b ∧ b.nb = 32 ∧ b.service = none ∧
      r.targetPulses ≤ r.pulses + 1 ∧ s.wpu.waitFill = none ∧ s.wpu.waitRegen = none ∧ s.wpu.waitTest = none ∧
      s.cdu.mode = .run ∧ s.wsc.active = some a ∧ s.wsc.wash = .running ∧ a.stage = .fill ∧ 0 < a.target ∧
      s.wsc.ctx = some x ∧ s.dsu.live = [] ∧ s.dsu.ended = [] ∧ s.dsu.curve.points.toList.Pairwise (fun p q => p.1 < q.1) ∧
      (g = .detergent ∧ a.record.detergent = some base ∧ a.record.additive = none ∨ g = .additive ∧ a.record.additive = some base ∧
        a.record.detergent = none) ∧
      s.spt.detergent.fallsShort 1) ∧
    (∃ (r : FillRecord) (b : Blend) (a : ActivePhase) (det : Nat) (add : Nat) (x : ProgramContext) (s : State),
      s.wpu.grant = some .fill ∧ s.wpu.fillRec = some r ∧ s.sfu.blend = some b ∧ b.nb = 32 ∧ b.service = none ∧
      r.targetPulses ≤ r.pulses + 1 ∧ s.wpu.waitFill = none ∧ s.wpu.waitRegen = none ∧ s.wpu.waitTest = none ∧
      s.cdu.mode = .run ∧ s.wsc.active = some a ∧ s.wsc.wash = .running ∧ a.stage = .fill ∧ 0 < a.target ∧
      s.wsc.ctx = some x ∧ s.dsu.live = [] ∧ s.dsu.ended = [] ∧ s.dsu.curve.points.toList.Pairwise (fun p q => p.1 < q.1) ∧
      a.record.detergent = some det ∧ a.record.additive = some add ∧ 0 < s.spt.detergent.stroke ∧ 0 < s.spt.additive.stroke ∧
      0 < det ∧ 0 < add ∧ s.spt.detergent.tracked = false ∧ s.spt.additive.tracked = false) ∧
    (∃ (r : FillRecord) (b : Blend) (a : ActivePhase) (det : Nat) (add : Nat) (x : ProgramContext) (s : State),
      s.wpu.grant = some .fill ∧ s.wpu.fillRec = some r ∧ s.sfu.blend = some b ∧ b.nb = 32 ∧ b.service = none ∧
      r.targetPulses ≤ r.pulses + 1 ∧ s.wpu.waitFill = none ∧ s.wpu.waitRegen = none ∧ s.wpu.waitTest = none ∧
      s.cdu.mode = .run ∧ s.wsc.active = some a ∧ s.wsc.wash = .running ∧ a.stage = .fill ∧ 0 < a.target ∧
      s.wsc.ctx = some x ∧ s.dsu.live = [] ∧ s.dsu.ended = [] ∧ s.dsu.curve.points.toList.Pairwise (fun p q => p.1 < q.1) ∧
      a.record.detergent = some det ∧ a.record.additive = some add ∧ 0 < s.spt.detergent.stroke ∧ 0 < s.spt.additive.stroke ∧
      0 < det ∧ 0 < add ∧ hasCondition s.cdu.traps .doseShort ∧ s.spt.additive.tracked = false ∧ s.spt.detergent.fallsShort 1) ∧
    (∃ (r : FillRecord) (b : Blend) (a : ActivePhase) (det : Nat) (add : Nat) (x : ProgramContext) (s : State),
      s.wpu.grant = some .fill ∧ s.wpu.fillRec = some r ∧ s.sfu.blend = some b ∧ b.nb = 32 ∧ b.service = none ∧
      r.targetPulses ≤ r.pulses + 1 ∧ s.wpu.waitFill = none ∧ s.wpu.waitRegen = none ∧ s.wpu.waitTest = none ∧
      s.cdu.mode = .run ∧ s.wsc.active = some a ∧ s.wsc.wash = .running ∧ a.stage = .fill ∧ 0 < a.target ∧
      s.wsc.ctx = some x ∧ s.dsu.live = [] ∧ s.dsu.ended = [] ∧ s.dsu.curve.points.toList.Pairwise (fun p q => p.1 < q.1) ∧
      a.record.detergent = some det ∧ a.record.additive = some add ∧ 0 < s.spt.detergent.stroke ∧ 0 < s.spt.additive.stroke ∧
      0 < det ∧ 0 < add ∧ hasCondition s.cdu.traps .doseShort ∧ s.spt.detergent.fallsShort 1 ∧ s.spt.additive.fallsShort 1) ∧
    (∃ (reading : Int) (q : HeatRequest) (a : ActivePhase) (base : Nat) (c : FillRecord) (rest : List FillRecord) (x : ProgramContext) (s : State),
      0 ≤ reading ∧ reading < 850 ∧ s.hcu.heat = some q ∧ q.mode = .heat ∧ q.reached = false ∧ q.target - 5 ≤ reading ∧
      s.cdu.mode = .run ∧ s.wsc.active = some a ∧ s.wsc.wash = .running ∧ a.stage = .heat ∧ a.record.rinse = some base ∧
      s.wpu.ledger = c :: rest ∧ s.wsc.ctx = some x ∧ s.dsu.live = [] ∧ s.dsu.ended = []) ∧
    (∃ (reading : Int) (q : HeatRequest) (a : ActivePhase) (base : Nat) (c : FillRecord) (rest : List FillRecord) (x : ProgramContext) (s : State),
      0 ≤ reading ∧ reading < 850 ∧ s.hcu.heat = some q ∧ q.mode = .heat ∧ q.reached = false ∧ q.target - 5 ≤ reading ∧
      s.cdu.mode = .run ∧ s.wsc.active = some a ∧ s.wsc.wash = .running ∧ a.stage = .heat ∧ a.record.rinse = some base ∧
      s.wpu.ledger = c :: rest ∧ s.wsc.ctx = some x ∧ s.dsu.live = [] ∧ s.dsu.ended = [] ∧ s.spt.rinseAid.fallsShort 1) ∧
    (∃ (a : ActivePhase) (r : DoseRecord) (x : ProgramContext) (s : State),
      s.wsc.wash = .held ∧ s.cdu.mode = .run ∧ s.wsc.active = some a ∧ a.stage = .heat ∧ s.doorClass = .closed ∧
      s.dru.latched = true ∧ s.cdu.causes = 0 ∧ s.wsc.ctx = some x ∧ s.dsu.live = [r] ∧ r.recompute = true ∧
      s.dsu.curve.points.toList.Pairwise (fun p q => p.1 < q.1)) ∧
    (∃ (a : ActivePhase) (r : DoseRecord) (x : ProgramContext) (s : State),
      s.wsc.wash = .held ∧ s.cdu.mode = .run ∧ s.wsc.active = some a ∧ a.stage = .heat ∧ s.doorClass = .closed ∧
      s.dru.latched = true ∧ s.cdu.causes = 0 ∧ s.wsc.ctx = some x ∧ s.dsu.live = [r] ∧ r.recompute = true ∧
      s.dsu.curve.points.toList.Pairwise (fun p q => p.1 < q.1) ∧ s.spt.detergent.fallsShort 1) :=
  ⟨⟨fillOf 1499 0, bypassing, { inStage .fill with record := { mainPhase with detergent := some 300 } }, .detergent, 300,
   ⟨none, false, 0⟩,
   { filling (fillOf 1499 0) bypassing with
     wsc.active := some { inStage .fill with record := { mainPhase with detergent := some 300 } } },
   by decide⟩,
   ⟨fillOf 1499 0, bypassing, { inStage .fill with record := { mainPhase with additive := some 0 } }, .additive, 0,
   ⟨none, false, 0⟩,
   { filling (fillOf 1499 0) bypassing with
     wsc.active := some { inStage .fill with record := { mainPhase with additive := some 0 } } },
   by decide⟩,
   ⟨fillOf 1499 0, bypassing, { inStage .fill with record := { mainPhase with detergent := some 300 } }, .detergent, 300,
   ⟨none, false, 0⟩,
   { filling (fillOf 1499 0) bypassing with
     wsc.active := some { inStage .fill with record := { mainPhase with detergent := some 300 } }, spt.detergent.tracked := true,
     spt.detergent.estimate := 4 },
   by decide⟩,
   ⟨fillOf 1499 0, bypassing, { inStage .fill with record := { mainPhase with detergent := some 300, additive := some 80 } },
   300, 80, ⟨none, false, 0⟩,
   { filling (fillOf 1499 0) bypassing with
     wsc.active := some { inStage .fill with record := { mainPhase with detergent := some 300, additive := some 80 } } },
   by decide⟩,
   ⟨fillOf 1499 0, bypassing, { inStage .fill with record := { mainPhase with detergent := some 300, additive := some 80 } },
   300, 80, ⟨none, false, 0⟩,
   { filling (fillOf 1499 0) bypassing with
     wsc.active := some { inStage .fill with record := { mainPhase with detergent := some 300, additive := some 80 } },
     cdu.traps := Condition.doseShort.mask, spt.detergent.tracked := true, spt.detergent.estimate := 4 },
   by decide⟩,
   ⟨fillOf 1499 0, bypassing, { inStage .fill with record := { mainPhase with detergent := some 300, additive := some 80 } },
   300, 80, ⟨none, false, 0⟩,
   { filling (fillOf 1499 0) bypassing with
     wsc.active := some { inStage .fill with record := { mainPhase with detergent := some 300, additive := some 80 } },
     cdu.traps := Condition.doseShort.mask, spt.detergent.tracked := true, spt.detergent.estimate := 4,
     spt.additive.tracked := true, spt.additive.estimate := 4 },
   by decide⟩,
   ⟨545, ⟨.heat, 550, false, none⟩, { inStage .heat with record := { mainPhase with rinse := some 30 } }, 30, closedFill, [],
   ⟨none, false, 0⟩,
   { inRun { inStage .heat with record := { mainPhase with rinse := some 30 } } with
     hcu.heat := some ⟨.heat, 550, false, none⟩, wpu.ledger := [closedFill] },
   by decide⟩,
   ⟨545, ⟨.heat, 550, false, none⟩, { inStage .heat with record := { mainPhase with rinse := some 30 } }, 30, closedFill, [],
   ⟨none, false, 0⟩,
   { inRun { inStage .heat with record := { mainPhase with rinse := some 30 } } with
     hcu.heat := some ⟨.heat, 550, false, none⟩, wpu.ledger := [closedFill], spt.rinseAid.tracked := true,
     spt.rinseAid.estimate := 0 },
   by decide⟩,
   ⟨inStage .heat, { dose .detergent .suspended 4 0 with recompute := true }, ⟨none, false, 0⟩,
   { inHold (inStage .heat) with dsu.live := [{ dose .detergent .suspended 4 0 with recompute := true }] }, by decide⟩,
   ⟨inStage .heat, { dose .detergent .suspended 4 0 with recompute := true }, ⟨none, false, 0⟩,
   { inHold (inStage .heat) with
     dsu.live := [{ dose .detergent .suspended 4 0 with recompute := true }], spt.detergent.tracked := true,
     spt.detergent.estimate := 4, cdu.traps := Condition.doseShort.mask },
   by decide⟩⟩

theorem test_strokesAreDriven_premises :
    (∃ (s : State), (s.dsu.flight ≠ none ∨ s.dsu.sinceDriveMs < 500)) ∧
    (∃ (r : DoseRecord) (rest : List DoseRecord) (s : State),
      s.dsu.flight = none ∧ 500 ≤ s.dsu.sinceDriveMs ∧ s.dsu.live = r :: rest ∧ r.state = .stroking ∧ r.done < r.planned) ∧
    (∃ (r : DoseRecord) (rest : List DoseRecord) (s : State),
      s.dsu.flight = none ∧ 500 ≤ s.dsu.sinceDriveMs ∧ s.dsu.live = r :: rest ∧ (r.state ≠ .stroking ∨ r.planned ≤ r.done)) ∧
    (∃ (q : DoseTest) (s : State) (b : _),
      s.dsu.flight = none ∧ 500 ≤ s.dsu.sinceDriveMs ∧ s.dsu.live = [] ∧ s.dsu.testRec = some q ∧ q.running = true ∧
      q.driven < q.asked ∧ b ≠ q.agent.actuator) ∧
    (∃ (q : DoseTest) (s : State),
      s.dsu.flight = none ∧ 500 ≤ s.dsu.sinceDriveMs ∧ s.dsu.live = [] ∧ s.dsu.testRec = some q ∧
      (q.running = false ∨ q.asked ≤ q.driven)) ∧
    (∃ (s : State), s.dsu.live = [] ∧ s.dsu.testRec = none) :=
  ⟨⟨{ atRest with dsu.sinceDriveMs := 499 }, by decide⟩,
   ⟨dose .detergent .stroking 51 0, [],
   { inRun (inStage .hold) with dsu.live := [dose .detergent .stroking 51 0], dsu.sinceDriveMs := 500 }, by decide⟩,
   ⟨dose .detergent .stroking 52 0, [],
   { inRun (inStage .hold) with dsu.live := [dose .detergent .stroking 52 0], dsu.sinceDriveMs := 500 }, by decide⟩,
   ⟨⟨.detergent, 10, 9, 0, true⟩, { testing [.detergentPump] with dsu.testRec := some ⟨.detergent, 10, 9, 0, true⟩ }, .fan,
   by decide⟩,
   ⟨⟨.detergent, 10, 10, 0, true⟩, { testing [.detergentPump] with dsu.testRec := some ⟨.detergent, 10, 10, 0, true⟩ },
   by decide⟩,
   ⟨atRest, by decide⟩⟩

theorem test_strokesAreSensedOrMissed_premises :
    (∃ (g : Agent) (s : State), (∀ f, s.dsu.flight = some f → f.agent ≠ g ∨ f.sensed = true)) ∧
    (∃ (r : DoseRecord) (rest : List DoseRecord) (s : State) (e : _),
      s.dsu.flight = some ⟨r.agent, .record, false⟩ ∧ s.dsu.live = r :: rest ∧ (∀ x ∈ rest, x.agent ≠ r.agent) ∧
      (s.entry r.agent.entry).tracked = false ∧ e ≠ r.agent.entry ∧ r.done + 1 ≠ r.planned) ∧
    (∃ (r : DoseRecord) (rest : List DoseRecord) (s : State) (x : _) (more : _),
      s.dsu.flight = some ⟨r.agent, .record, false⟩ ∧ s.dsu.live = r :: rest ∧ (∀ x ∈ rest, x.agent ≠ r.agent) ∧
      (s.entry r.agent.entry).tracked = true ∧ rest = x :: more ∧ s.wsc.wash = .running ∧ r.done + 1 = r.planned) ∧
    (∃ (s : State), (s.dsu.flight = none ∨ s.dsu.sinceDriveMs < 320)) ∧
    (∃ (f : Flight) (s : State),
      320 ≤ s.dsu.sinceDriveMs ∧ s.dsu.flight = some f ∧ (f.serves = .nobody ∨ f.serves = .record ∧ f.sensed = true)) ∧
    (∃ (r : DoseRecord) (rest : List DoseRecord) (s : State),
      s.dsu.flight = some ⟨r.agent, .record, false⟩ ∧ s.dsu.live = r :: rest ∧ (∀ x ∈ rest, x.agent ≠ r.agent) ∧
      320 ≤ s.dsu.sinceDriveMs ∧ r.misses < 2) ∧
    (∃ (r : DoseRecord) (rest : List DoseRecord) (s : State) (a : _) (x : _) (more : _),
      s.dsu.flight = some ⟨r.agent, .record, false⟩ ∧ s.dsu.live = r :: rest ∧ (∀ x ∈ rest, x.agent ≠ r.agent) ∧
      320 ≤ s.dsu.sinceDriveMs ∧ r.misses = 2 ∧ s.cdu.mode = .run ∧ s.wsc.wash = .running ∧ s.wsc.active = some a ∧
      s.wpu.waitRegen = none ∧ rest = x :: more ∧ hasCondition s.cdu.traps .dosePumpFault) ∧
    (∃ (r : DoseRecord) (rest : List DoseRecord) (s : State) (a : _) (x : _) (more : _),
      s.dsu.flight = some ⟨r.agent, .record, false⟩ ∧ s.dsu.live = r :: rest ∧ (∀ x ∈ rest, x.agent ≠ r.agent) ∧
      320 ≤ s.dsu.sinceDriveMs ∧ r.misses = 2 ∧ s.cdu.mode = .run ∧ s.wsc.wash = .running ∧ s.wsc.active = some a ∧
      s.wpu.waitRegen = none ∧ rest = x :: more ∧ ¬hasCondition s.cdu.traps .dosePumpFault) ∧
    (∃ (r : DoseRecord) (rest : List DoseRecord) (s : State),
      s.dsu.flight = some ⟨r.agent, .record, false⟩ ∧ s.dsu.live = r :: rest ∧ (∀ x ∈ rest, x.agent ≠ r.agent) ∧
      r.misses = 2 ∧ s.cdu.mode = .run ∧ s.wsc.wash = .held ∧ 320 ≤ s.dsu.sinceDriveMs ∧
      hasCondition s.cdu.traps .dosePumpFault) ∧
    (∃ (r : DoseRecord) (rest : List DoseRecord) (s : State),
      s.dsu.flight = some ⟨r.agent, .record, false⟩ ∧ s.dsu.live = r :: rest ∧ (∀ x ∈ rest, x.agent ≠ r.agent) ∧
      r.misses = 2 ∧ s.cdu.mode = .run ∧ s.wsc.wash = .held ∧ 320 ≤ s.dsu.sinceDriveMs ∧
      ¬hasCondition s.cdu.traps .dosePumpFault) ∧
    (∃ (q : DoseTest) (b : Bool) (s : State) (x : _),
      s.dsu.flight = some ⟨q.agent, .test, b⟩ ∧ s.dsu.testRec = some q ∧ q.running = true ∧ q.asked ≤ q.driven ∧
      s.testing q.agent.actuator = true ∧ 320 ≤ s.dsu.sinceDriveMs ∧ x ≠ q.agent.actuator) ∧
    (∃ (cmd : Instr) (r : DoseRecord) (a : ActivePhase) (x : ProgramContext) (s : State),
      s.dsu.flight = some ⟨r.agent, .record, false⟩ ∧ s.dsu.live = [r] ∧ s.cdu.mode = .run ∧ s.wsc.wash = .running ∧
      s.wsc.active = some a ∧ s.wsc.ctx = some x ∧
      (cmd = .strokeSensorPulse r.agent ∧ r.done + 1 = r.planned ∨ cmd = .senseWindowClose ∧ 320 ≤ s.dsu.sinceDriveMs ∧
        r.misses = 2 ∧ ¬hasCondition s.cdu.traps .dosePumpFault) ∧
      (a.stage = .hold ∧ a.holdEnded = true ∧ a.record.soilSense = false ∨ a.stage = .sense ∧ a.classDone = true) ∧
      a.record.drainAtEnd = true) ∧
    (∃ (cmd : Instr) (r : DoseRecord) (a : ActivePhase) (x : ProgramContext) (s : State),
      s.dsu.flight = some ⟨r.agent, .record, false⟩ ∧ s.dsu.live = [r] ∧ s.cdu.mode = .run ∧ s.wsc.wash = .running ∧
      s.wsc.active = some a ∧ s.wsc.ctx = some x ∧
      (cmd = .strokeSensorPulse r.agent ∧ r.done + 1 = r.planned ∨ cmd = .senseWindowClose ∧ 320 ≤ s.dsu.sinceDriveMs ∧
        r.misses = 2 ∧ ¬hasCondition s.cdu.traps .dosePumpFault) ∧
      (a.stage = .hold ∧ a.holdEnded = true ∧ a.record.soilSense = false ∨ a.stage = .sense ∧ a.classDone = true) ∧
      a.record.drainAtEnd = true) ∧
    (∃ (cmd : Instr) (r : DoseRecord) (a : ActivePhase) (x : ProgramContext) (s : State),
      s.dsu.flight = some ⟨r.agent, .record, false⟩ ∧ s.dsu.live = [r] ∧ s.cdu.mode = .run ∧ s.wsc.wash = .running ∧
      s.wsc.active = some a ∧ s.wsc.ctx = some x ∧
      (cmd = .strokeSensorPulse r.agent ∧ r.done + 1 = r.planned ∨ cmd = .senseWindowClose ∧ 320 ≤ s.dsu.sinceDriveMs ∧
        r.misses = 2 ∧ ¬hasCondition s.cdu.traps .dosePumpFault) ∧
      (a.stage = .hold ∧ a.holdEnded = true ∧ a.record.soilSense = false ∨ a.stage = .sense ∧ a.classDone = true) ∧
      a.record.drainAtEnd = false ∧ s.wsc.queue = []) ∧
    (∃ (cmd : Instr) (r : DoseRecord) (a : ActivePhase) (x : ProgramContext) (s : State) (p : _) (rest : _),
      s.dsu.flight = some ⟨r.agent, .record, false⟩ ∧ s.dsu.live = [r] ∧ s.cdu.mode = .run ∧ s.wsc.wash = .running ∧
      s.wsc.active = some a ∧ s.wsc.ctx = some x ∧
      (cmd = .strokeSensorPulse r.agent ∧ r.done + 1 = r.planned ∨ cmd = .senseWindowClose ∧ 320 ≤ s.dsu.sinceDriveMs ∧
        r.misses = 2 ∧ ¬hasCondition s.cdu.traps .dosePumpFault) ∧
      (a.stage = .hold ∧ a.holdEnded = true ∧ a.record.soilSense = false ∨ a.stage = .sense ∧ a.classDone = true) ∧
      a.record.drainAtEnd = false ∧ s.wsc.queue = p :: rest ∧ p.kind = .drain ∧ s.doorClass = .closed ∧ s.dru.latched = true ∧
      s.sfu.run = none) ∧
    (∃ (cmd : Instr) (r : DoseRecord) (a : ActivePhase) (x : ProgramContext) (s : State),
      s.dsu.flight = some ⟨r.agent, .record, false⟩ ∧ s.dsu.live = [r] ∧ s.cdu.mode = .run ∧ s.wsc.wash = .running ∧
      s.wsc.active = some a ∧ s.wsc.ctx = some x ∧
      (cmd = .strokeSensorPulse r.agent ∧ r.done + 1 = r.planned ∨ cmd = .senseWindowClose ∧ 320 ≤ s.dsu.sinceDriveMs ∧
        r.misses = 2 ∧ ¬hasCondition s.cdu.traps .dosePumpFault) ∧
      (a.stage = .heat ∨ a.stage = .hold ∧ (a.holdEnded = false ∨ a.record.soilSense = true) ∨ a.stage = .sense ∧
        a.classDone = false)) ∧
    (∃ (cmd : Instr) (r : DoseRecord) (a : ActivePhase) (x : ProgramContext) (s : State),
      s.dsu.flight = some ⟨r.agent, .record, false⟩ ∧ s.dsu.live = [r] ∧ s.cdu.mode = .run ∧ s.wsc.wash = .running ∧
      s.wsc.active = some a ∧ s.wsc.ctx = some x ∧
      (cmd = .strokeSensorPulse r.agent ∧ r.done + 1 = r.planned ∨ cmd = .senseWindowClose ∧ 320 ≤ s.dsu.sinceDriveMs ∧
        r.misses = 2 ∧ ¬hasCondition s.cdu.traps .dosePumpFault) ∧
      (a.stage = .heat ∨ a.stage = .hold ∧ (a.holdEnded = false ∨ a.record.soilSense = true) ∨ a.stage = .sense ∧
        a.classDone = false)) ∧
    (∃ (r : DoseRecord) (rest : List DoseRecord) (s : State),
      s.dsu.flight = some ⟨r.agent, .record, false⟩ ∧ s.dsu.live = r :: rest ∧ (∀ x ∈ rest, x.agent ≠ r.agent) ∧
      s.wsc.wash = .held ∧ r.done + 1 = r.planned ∧ (∀ x ∈ s.dsu.live, x.state = .suspended)) ∧
    (∃ (q : DoseTest) (s : State) (x : _) (e : _),
      s.dsu.flight = some ⟨q.agent, .test, false⟩ ∧ s.dsu.testRec = some q ∧ s.cdu.mode = .service ∧ s.wsc.wash ≠ .running ∧
      x ≠ q.agent.actuator ∧ (s.entry q.agent.entry).tracked = false ∧ e ≠ q.agent.entry) ∧
    (∃ (q : DoseTest) (s : State),
      s.dsu.flight = some ⟨q.agent, .test, false⟩ ∧ s.dsu.testRec = some q ∧ s.cdu.mode = .service ∧ s.wsc.wash ≠ .running ∧
      (s.entry q.agent.entry).tracked = true) :=
  ⟨⟨.rinseAid, stroking 3 0, by rintro _ ⟨⟩; decide⟩,
   ⟨dose .detergent .stroking 50 2, [dose .additive .waiting 0 0], stroking 50 2, .salt, by decide⟩,
   ⟨dose .detergent .stroking 51 2, [dose .additive .waiting 0 0], { stroking 51 2 with spt.detergent.tracked := true },
   dose .additive .waiting 0 0, [], by decide⟩,
   ⟨atRest, by decide⟩,
   ⟨⟨.detergent, .nobody, false⟩, { atRest with dsu.flight := some ⟨.detergent, .nobody, false⟩ }, by decide⟩,
   ⟨dose .detergent .stroking 3 1, [dose .additive .waiting 0 0], stroking 3 1, by decide⟩,
   ⟨dose .detergent .stroking 3 2, [dose .additive .waiting 0 0], { stroking 3 2 with cdu.traps := 512 }, inStage .hold,
   dose .additive .waiting 0 0, [], by decide⟩,
   ⟨dose .detergent .stroking 3 2, [dose .additive .waiting 0 0], stroking 3 2, inStage .hold, dose .additive .waiting 0 0, [],
   by decide⟩,
   ⟨dose .detergent .suspended 3 2, [dose .additive .waiting 0 0],
   { stroking 3 2 with
     wsc.wash := .held, dsu.live := [dose .detergent .suspended 3 2, dose .additive .waiting 0 0], cdu.traps := 512 },
   by decide⟩,
   ⟨dose .detergent .suspended 3 2, [dose .additive .waiting 0 0],
   { stroking 3 2 with wsc.wash := .held, dsu.live := [dose .detergent .suspended 3 2, dose .additive .waiting 0 0] },
   by decide⟩,
   ⟨⟨.detergent, 10, 10, 9, true⟩, true,
   { testing [.detergentPump] with
     dsu.flight := some ⟨.detergent, .test, true⟩, dsu.testRec := some ⟨.detergent, 10, 10, 9, true⟩ },
   .fan, by decide⟩,
   ⟨.strokeSensorPulse .detergent, dose .detergent .stroking 51 2, { inStage .hold with holdSec := 0, holdEnded := true },
   ⟨none, false, 0⟩,
   { stroking 51 2 with
     dsu.live := [dose .detergent .stroking 51 2], wsc.active := some { inStage .hold with holdSec := 0, holdEnded := true } },
   by decide⟩,
   ⟨.senseWindowClose, dose .detergent .stroking 51 2, { inStage .sense with classDone := true }, ⟨none, false, 0⟩,
   { stroking 51 2 with dsu.live := [dose .detergent .stroking 51 2], wsc.active := some { inStage .sense with
     classDone := true } },
   by decide⟩,
   ⟨.senseWindowClose, dose .detergent .stroking 51 2,
   { inStage .hold with holdSec := 0, holdEnded := true, record := { mainPhase with drainAtEnd := false } }, ⟨none, false, 0⟩,
   { stroking 51 2 with
     dsu.live := [dose .detergent .stroking 51 2],
     wsc.active := some { inStage .hold with holdSec := 0, holdEnded := true, record := { mainPhase with drainAtEnd := false } } },
   by decide⟩,
   ⟨.strokeSensorPulse .detergent, dose .detergent .stroking 51 2,
   { inStage .sense with classDone := true, record := { mainPhase with drainAtEnd := false } }, ⟨none, false, 0⟩,
   { stroking 51 2 with
     dsu.live := [dose .detergent .stroking 51 2],
     wsc.active := some { inStage .sense with classDone := true, record := { mainPhase with drainAtEnd := false } },
     wsc.queue := [drainPhase] },
   drainPhase, [], by decide⟩,
   ⟨.senseWindowClose, dose .detergent .stroking 51 2, (inStage .sense), ⟨none, false, 0⟩,
   { stroking 51 2 with dsu.live := [dose .detergent .stroking 51 2], wsc.active := some (inStage .sense) }, by decide⟩,
   ⟨.strokeSensorPulse .detergent, dose .detergent .stroking 51 2,
   { inStage .hold with record := { mainPhase with soilSense := true }, holdSec := 0, holdEnded := true }, ⟨none, false, 0⟩,
   { stroking 51 2 with
     dsu.live := [dose .detergent .stroking 51 2],
     wsc.active := some { inStage .hold with record := { mainPhase with soilSense := true }, holdSec := 0, holdEnded := true } },
   by decide⟩,
   ⟨dose .detergent .suspended 51 2, [dose .additive .suspended 0 0],
   { stroking 51 2 with wsc.wash := .held, dsu.live := [dose .detergent .suspended 51 2, dose .additive .suspended 0 0] },
   by decide⟩,
   ⟨⟨.detergent, 10, 4, 3, true⟩,
   { testing [.detergentPump] with
     dsu.flight := some ⟨.detergent, .test, false⟩, dsu.testRec := some ⟨.detergent, 10, 4, 3, true⟩ },
   .fan, .salt, by decide⟩,
   ⟨⟨.detergent, 10, 4, 3, true⟩,
   { testing [.detergentPump] with
     dsu.flight := some ⟨.detergent, .test, false⟩, dsu.testRec := some ⟨.detergent, 10, 4, 3, true⟩,
     spt.detergent.tracked := true },
   by decide⟩⟩

theorem test_holdAndSenseEnd_premises :
    (∃ (s : State),
      (∀ a, s.wsc.active = some a → s.wsc.wash ≠ .running ∨ a.stage ≠ .hold ∨ a.holdEnded = true ∨ 0 < a.holdSec)) ∧
    (∃ (s : State),
      (∀ a, s.wsc.active = some a → s.wsc.wash ≠ .running ∨ a.stage ≠ .hold ∨ a.holdEnded = true ∨ 0 < a.holdSec)) ∧
    (∃ (a : ActivePhase) (b : ActivePhase) (s : State),
      s.wsc.active = some a ∧ s.wsc.wash = .running ∧ a.stage = .hold ∧ a.holdEnded = false ∧ a.holdSec = 0 ∧
      b = { a with holdSec := 0, holdFracMs := 0, holdEnded := true } ∧ a.record.soilSense = true) ∧
    (∃ (a : ActivePhase) (b : ActivePhase) (s : State),
      s.wsc.active = some a ∧ s.wsc.wash = .running ∧ a.stage = .hold ∧ a.holdEnded = false ∧ a.holdSec = 0 ∧
      b = { a with holdSec := 0, holdFracMs := 0, holdEnded := true } ∧ a.record.soilSense = false ∧ s.dsu.live ≠ []) ∧
    (∃ (a : ActivePhase) (b : ActivePhase) (s : State),
      s.wsc.active = some a ∧ s.wsc.wash = .running ∧ a.stage = .hold ∧ a.holdEnded = false ∧ a.holdSec = 0 ∧
      b = { a with holdSec := 0, holdFracMs := 0, holdEnded := true } ∧ a.record.soilSense = false ∧ s.dsu.live = [] ∧
      a.record.drainAtEnd = true ∧ s.cdu.mode = .run) ∧
    (∃ (a : ActivePhase) (b : ActivePhase) (s : State) (p : _) (rest : _),
      s.wsc.active = some a ∧ s.wsc.wash = .running ∧ a.stage = .hold ∧ a.holdEnded = false ∧ a.holdSec = 0 ∧
      b = { a with holdSec := 0, holdFracMs := 0, holdEnded := true } ∧ a.record.soilSense = false ∧ s.dsu.live = [] ∧
      a.record.drainAtEnd = false ∧ s.cdu.mode = .run ∧ s.wsc.queue = p :: rest ∧ p.kind = .drain ∧ s.doorClass = .closed ∧
      s.dru.latched = true ∧ s.sfu.run = none) ∧
    (∃ (a : ActivePhase) (b : ActivePhase) (s : State) (x : _),
      s.wsc.active = some a ∧ s.wsc.wash = .running ∧ a.stage = .hold ∧ a.holdEnded = false ∧ a.holdSec = 0 ∧
      b = { a with holdSec := 0, holdFracMs := 0, holdEnded := true } ∧ a.record.soilSense = false ∧ s.dsu.live = [] ∧
      a.record.drainAtEnd = false ∧ s.cdu.mode = .run ∧ s.wsc.queue = [] ∧ s.wsc.ctx = some x) ∧
    (∃ (s : State), (s.hcu.classify = none ∨ s.hcu.circMs < 60000)) ∧
    (∃ (s : State), (s.hcu.classify = none ∨ s.hcu.circMs < 60000)) ∧
    (∃ (l : List Nat) (s : State), s.hcu.classify = some l ∧ l.length < 7 ∧ 60000 ≤ s.hcu.circMs) ∧
    (∃ (count : Nat) (l : List Nat) (a : ActivePhase) (x : ProgramContext) (s : State),
      s.hcu.classify = some l ∧ l.length = 7 ∧ s.wsc.active = some a ∧ s.wsc.ctx = some x ∧ s.dsu.live ≠ [] ∧
      60000 ≤ s.hcu.circMs ∧ (l.sum + count) / 8 < s.dsu.soil.t1) ∧
    (∃ (count : Nat) (l : List Nat) (a : ActivePhase) (x : ProgramContext) (s : State),
      s.hcu.classify = some l ∧ l.length = 7 ∧ s.wsc.active = some a ∧ s.wsc.ctx = some x ∧ s.dsu.live ≠ [] ∧
      60000 ≤ s.hcu.circMs ∧ s.dsu.soil.t1 ≤ (l.sum + count) / 8 ∧ (l.sum + count) / 8 < s.dsu.soil.t2) ∧
    (∃ (count : Nat) (l : List Nat) (a : ActivePhase) (x : ProgramContext) (s : State),
      s.hcu.classify = some l ∧ l.length = 7 ∧ s.wsc.active = some a ∧ s.wsc.ctx = some x ∧ s.dsu.live ≠ [] ∧
      60000 ≤ s.hcu.circMs ∧ s.dsu.soil.t1 ≤ (l.sum + count) / 8 ∧ s.dsu.soil.t2 ≤ (l.sum + count) / 8 ∧
      (l.sum + count) / 8 < s.dsu.soil.t3) ∧
    (∃ (count : Nat) (l : List Nat) (a : ActivePhase) (x : ProgramContext) (s : State),
      s.hcu.classify = some l ∧ l.length = 7 ∧ s.wsc.active = some a ∧ s.wsc.ctx = some x ∧ s.dsu.live ≠ [] ∧
      60000 ≤ s.hcu.circMs ∧ s.dsu.soil.t1 ≤ (l.sum + count) / 8 ∧ s.dsu.soil.t2 ≤ (l.sum + count) / 8 ∧
      s.dsu.soil.t3 ≤ (l.sum + count) / 8) ∧
    (∃ (l : List Nat) (a : ActivePhase) (x : ProgramContext) (s : State),
      s.hcu.classify = some l ∧ l.length = 7 ∧ s.wsc.active = some a ∧ s.wsc.ctx = some x ∧ s.dsu.live = [] ∧
      60000 ≤ s.hcu.circMs ∧ s.wsc.wash = .running ∧ a.stage = .sense ∧ s.cdu.mode = .run ∧ a.record.drainAtEnd = true) ∧
    (∃ (l : List Nat) (a : ActivePhase) (x : ProgramContext) (s : State),
      s.hcu.classify = some l ∧ l.length = 7 ∧ s.wsc.active = some a ∧ s.wsc.ctx = some x ∧ s.dsu.live = [] ∧
      60000 ≤ s.hcu.circMs ∧ s.wsc.wash = .running ∧ a.stage = .sense ∧ s.cdu.mode = .run ∧ a.record.drainAtEnd = false ∧
      s.wsc.queue = []) ∧
    (∃ (l : List Nat) (a : ActivePhase) (x : ProgramContext) (s : State) (p : _) (rest : _),
      s.hcu.classify = some l ∧ l.length = 7 ∧ s.wsc.active = some a ∧ s.wsc.ctx = some x ∧ s.dsu.live = [] ∧
      60000 ≤ s.hcu.circMs ∧ s.wsc.wash = .running ∧ a.stage = .sense ∧ s.cdu.mode = .run ∧ a.record.drainAtEnd = false ∧
      s.wsc.queue = p :: rest ∧ p.kind = .drain ∧ s.doorClass = .closed ∧ s.dru.latched = true ∧ s.sfu.run = none) :=
  ⟨⟨inRun (inStage .heat), by rintro _ ⟨⟩; decide⟩,
   ⟨inRun { inStage .hold with holdSec := 1 }, by rintro _ ⟨⟩; decide⟩,
   ⟨{ inStage .hold with holdSec := 0, record := { mainPhase with soilSense := true } },
   { inStage .hold with holdSec := 0, holdFracMs := 0, holdEnded := true, record := { mainPhase with soilSense := true } },
   { inRun { inStage .hold with holdSec := 0, record := { mainPhase with soilSense := true } } with wpu.waterPresent := true },
   by decide⟩,
   ⟨{ inStage .hold with holdSec := 0 }, { inStage .hold with holdSec := 0, holdFracMs := 0, holdEnded := true },
   { inRun { inStage .hold with holdSec := 0 } with wpu.waterPresent := true, dsu.live := [dose .detergent .stroking 3 0] },
   by decide⟩,
   ⟨{ inStage .hold with holdSec := 0 }, { inStage .hold with holdSec := 0, holdFracMs := 0, holdEnded := true },
   { inRun { inStage .hold with holdSec := 0 } with wpu.waterPresent := true }, by decide⟩,
   ⟨{ inStage .hold with holdSec := 0, record := { mainPhase with drainAtEnd := false } },
   { inStage .hold with holdSec := 0, holdFracMs := 0, holdEnded := true, record := { mainPhase with drainAtEnd := false } },
   { inRun { inStage .hold with holdSec := 0, record := { mainPhase with drainAtEnd := false } } with
     wpu.waterPresent := true, wsc.queue := [drainPhase] },
   drainPhase, [], by decide⟩,
   ⟨{ inStage .hold with holdSec := 0, record := { mainPhase with drainAtEnd := false } },
   { inStage .hold with holdSec := 0, holdFracMs := 0, holdEnded := true, record := { mainPhase with drainAtEnd := false } },
   { inRun { inStage .hold with holdSec := 0, record := { mainPhase with drainAtEnd := false } } with wpu.waterPresent := true },
   ⟨none, false, 0⟩, by decide⟩,
   ⟨atRest, by decide⟩,
   ⟨{ washing .sense with hcu.classify := some [], hcu.circMs := 59999 }, by decide⟩,
   ⟨[1, 2, 3, 4, 5, 6], { washing .sense with hcu.classify := some [1, 2, 3, 4, 5, 6], hcu.circMs := 60000 }, by decide⟩,
   ⟨206, [199, 199, 199, 199, 199, 199, 199], inStage .sense, ⟨none, false, 0⟩,
   { stroking 3 0 with
     wsc.active := some (inStage .sense), hcu.classify := some [199, 199, 199, 199, 199, 199, 199], hcu.circMs := 60000 },
   by decide⟩,
   ⟨200, [200, 200, 200, 200, 200, 200, 200], inStage .sense, ⟨none, false, 0⟩,
   { stroking 3 0 with
     wsc.active := some (inStage .sense), hcu.classify := some [200, 200, 200, 200, 200, 200, 200], hcu.circMs := 60000 },
   by decide⟩,
   ⟨706, [699, 699, 699, 699, 699, 699, 699], inStage .sense, ⟨none, false, 0⟩,
   { stroking 3 0 with
     wsc.active := some (inStage .sense), hcu.classify := some [699, 699, 699, 699, 699, 699, 699], hcu.circMs := 60000 },
   by decide⟩,
   ⟨700, [700, 700, 700, 700, 700, 700, 700], inStage .sense, ⟨none, false, 0⟩,
   { stroking 3 0 with
     wsc.active := some (inStage .sense), hcu.classify := some [700, 700, 700, 700, 700, 700, 700], hcu.circMs := 60000 },
   by decide⟩,
   ⟨[1, 2, 3, 4, 5, 6, 7], (inStage .sense), ⟨none, false, 0⟩,
   { inRun (inStage .sense) with hcu.classify := some [1, 2, 3, 4, 5, 6, 7], hcu.circMs := 60000 }, by decide⟩,
   ⟨[1, 2, 3, 4, 5, 6, 7], { inStage .sense with record := { mainPhase with drainAtEnd := false } }, ⟨none, false, 0⟩,
   { inRun { inStage .sense with record := { mainPhase with drainAtEnd := false } } with
     hcu.classify := some [1, 2, 3, 4, 5, 6, 7], hcu.circMs := 60000 },
   by decide⟩,
   ⟨[1, 2, 3, 4, 5, 6, 7], { inStage .sense with record := { mainPhase with drainAtEnd := false } }, ⟨none, false, 0⟩,
   { inRun { inStage .sense with record := { mainPhase with drainAtEnd := false } } with
     hcu.classify := some [1, 2, 3, 4, 5, 6, 7], hcu.circMs := 60000, wsc.queue := [drainPhase] },
   drainPhase, [], by decide⟩⟩

theorem test_sampleSetsLevelAndReports_premises :
    (∃ (reading : Int) (s : State), 0 ≤ reading ∧ reading < 850 ∧ s.hcu.heat = none) ∧
    (∃ (reading : Int) (s : State) (q : _),
      0 ≤ reading ∧ reading < 850 ∧ s.hcu.heat = some q ∧ q.mode ≠ .test ∧ q.target ≤ reading ∧ q.mode = .maintain) ∧
    (∃ (reading : Int) (s : State) (q : _),
      0 ≤ reading ∧ reading < 850 ∧ s.hcu.heat = some q ∧ q.mode ≠ .test ∧ 40 ≤ q.target - reading ∧ q.mode = .heat ∧
      (q.reached = true ∨ reading < q.target - 5)) ∧
    (∃ (reading : Int) (s : State) (q : _),
      0 ≤ reading ∧ reading < 850 ∧ s.hcu.heat = some q ∧ q.mode ≠ .test ∧ reading < q.target ∧ q.target - reading < 40 ∧
      q.mode = .heat ∧ (q.reached = true ∨ reading < q.target - 5)) ∧
    (∃ (reading : Int) (s : State) (q : _) (a : _),
      0 ≤ reading ∧ reading < 850 ∧ s.hcu.heat = some q ∧ q.mode ≠ .test ∧ q.mode = .heat ∧ q.reached = false ∧
      q.target - 5 ≤ reading ∧ s.wsc.active = some a ∧ s.wsc.wash = .running ∧ a.stage = .heat ∧ a.record.rinse = none ∧
      0 < a.target) :=
  ⟨⟨849, atRest, by decide⟩,
   ⟨550, { washing .heat with hcu.heat := some ⟨.maintain, 550, false, none⟩ }, ⟨.maintain, 550, false, none⟩, by decide⟩,
   ⟨510, { washing .heat with hcu.heat := some ⟨.heat, 550, false, none⟩ }, ⟨.heat, 550, false, none⟩, by decide⟩,
   ⟨511, { washing .heat with hcu.heat := some ⟨.heat, 550, false, none⟩ }, ⟨.heat, 550, false, none⟩, by decide⟩,
   ⟨545, { washing .heat with hcu.heat := some ⟨.heat, 550, false, none⟩ }, ⟨.heat, 550, false, none⟩, inStage .heat, by decide⟩⟩

theorem test_heatLimitExpires_premises :
    (∃ (s : State),
      ((∀ q, s.hcu.heat = some q → q.mode ≠ .heat ∨ q.reached = true) ∨ s.hcu.heatMs < s.hcu.heatLimit * 1000)) ∧
    (∃ (q : HeatRequest) (a : ActivePhase) (s : State),
      s.hcu.heat = some q ∧ q.mode = .heat ∧ q.reached = false ∧ s.hcu.heatLimit * 1000 ≤ s.hcu.heatMs ∧ s.cdu.mode = .run ∧
      s.wsc.wash = .running ∧ s.wsc.active = some a ∧ a.stage = .heat ∧ a.record.rinse = none ∧
      hasCondition s.cdu.traps .heatSlow) ∧
    (∃ (q : HeatRequest) (a : ActivePhase) (s : State),
      s.hcu.heat = some q ∧ q.mode = .heat ∧ q.reached = false ∧ s.hcu.heatLimit * 1000 ≤ s.hcu.heatMs ∧ s.cdu.mode = .run ∧
      s.wsc.wash = .running ∧ s.wsc.active = some a ∧ a.stage = .heat ∧ a.record.rinse = none ∧
      ¬hasCondition s.cdu.traps .heatSlow) :=
  ⟨⟨{ washing .heat with hcu.heatLimit := 1800, hcu.heatMs := 1799999 }, Or.inr (by decide)⟩,
   ⟨⟨.heat, 550, false, none⟩, inStage .heat,
   { washing .heat with hcu.heatLimit := 1800, hcu.heatMs := 1800000, cdu.traps := 32 }, by decide⟩,
   ⟨⟨.heat, 550, false, none⟩, inStage .heat, { washing .heat with hcu.heatLimit := 1800, hcu.heatMs := 1800000 }, by decide⟩⟩

theorem test_diverterServesTheZones_premises :
    (∃ (z : Zone) (m : DiverterMove) (s : State),
      s.hcu.move = some m ∧ m.forTest = false ∧ m.target = .zone z ∧ s.hcu.demand ≠ none ∧ s.dru.opener = .retracted ∧
      s.cdu.mode = .run) ∧
    (∃ (c : Cam) (m : DiverterMove) (s : State),
      (∀ z, m.target = .zone z → c ≠ .at z) ∧ (m.target = .anyZone → c = .between) ∧ s.hcu.move = some m) ∧
    (∃ (s : State), (∀ m, s.hcu.move = some m → m.ms < 4000)) ∧
    (∃ (z : Zone) (ms : Nat) (a : ActivePhase) (s : State),
      s.hcu.move = some ⟨.zone z, ms, false⟩ ∧ 4000 ≤ ms ∧ s.cdu.mode = .run ∧ s.wsc.wash = .running ∧ s.wsc.active = some a ∧
      (a.stage = .heat ∨ a.stage = .hold ∨ a.stage = .sense) ∧ s.hcu.demand ≠ none ∧ s.dru.opener = .retracted ∧
      hasCondition s.cdu.traps .diverterFault) ∧
    (∃ (z : Zone) (ms : Nat) (a : ActivePhase) (s : State),
      s.hcu.move = some ⟨.zone z, ms, false⟩ ∧ 4000 ≤ ms ∧ s.cdu.mode = .run ∧ s.wsc.wash = .running ∧ s.wsc.active = some a ∧
      (a.stage = .heat ∨ a.stage = .hold ∨ a.stage = .sense) ∧ s.hcu.demand ≠ none ∧ s.dru.opener = .retracted ∧
      ¬hasCondition s.cdu.traps .diverterFault) ∧
    (∃ (z : Zone) (ms : Nat) (a : ActivePhase) (s : State),
      s.hcu.move = some ⟨.zone z, ms, false⟩ ∧ 4000 ≤ ms ∧ s.cdu.mode = .run ∧ s.wsc.wash = .running ∧ s.wsc.active = some a ∧
      (a.stage = .heat ∨ a.stage = .hold ∨ a.stage = .sense) ∧ s.hcu.demand ≠ none ∧ s.dru.opener = .retracted ∧
      ¬hasCondition s.cdu.traps .diverterFault) ∧
    (∃ (m : DiverterMove) (s : State), s.hcu.move = some m ∧ m.forTest = true ∧ s.testing .diverter = true ∧ 4000 ≤ m.ms) ∧
    (∃ (z : Zone) (s : State),
      (∀ y : Zone, y ≠ z → s.hcu.mask.testBit y.bitIdx = false) ∧ s.hcu.demand ≠ none ∧ s.dru.opener = .retracted ∧
      s.cdu.mode = .run ∧ s.hcu.move = none ∧ s.hcu.cam = .at z ∧ s.hcu.zone = some z ∧ s.hcu.fixed = false ∧
      s.hcu.period * 1000 ≤ s.hcu.periodMs) ∧
    (∃ (z : Zone) (s : State) (y : Zone),
      s.hcu.demand ≠ none ∧ s.dru.opener = .retracted ∧ s.cdu.mode = .run ∧ s.hcu.move = none ∧ s.hcu.cam = .at z ∧
      s.hcu.zone = some z ∧ s.hcu.fixed = false ∧ s.hcu.period * 1000 ≤ s.hcu.periodMs ∧ s.hcu.mask.testBit y.bitIdx = true ∧
      (y = z.next ∨ y = z.next.next ∧ s.hcu.mask.testBit z.next.bitIdx = false)) ∧
    (∃ (s : State), (s.hcu.move ≠ none ∨ s.hcu.fixed = true ∨ s.hcu.cam = .between ∨ s.hcu.periodMs < s.hcu.period * 1000)) ∧
    (∃ (z : Zone) (m : DiverterMove) (s : State) (b : Actuator),
      s.hcu.move = some m ∧ m.forTest = true ∧ (m.target = .zone z ∨ m.target = .anyZone) ∧ s.testing .diverter = true ∧
      b ≠ .diverter) ∧
    (∃ (z : Zone) (a : ActivePhase) (s : State),
      s.wsc.wash = .held ∧ s.cdu.mode = .run ∧ s.wsc.active = some a ∧ a.stage = .heat ∧ s.doorClass = .closed ∧
      s.dru.latched = true ∧ s.dru.opener = .retracted ∧ s.cdu.causes = 0 ∧ s.dsu.live = [] ∧ s.hcu.pendingMove = some z ∧
      s.hcu.move = none ∧ s.hcu.fixed = false ∧ s.hcu.pumpRuns = false ∧ s.hcu.cam = .at z) ∧
    (∃ (z : Zone) (a : ActivePhase) (s : State),
      s.wsc.wash = .held ∧ s.cdu.mode = .run ∧ s.wsc.active = some a ∧ a.stage = .heat ∧ s.doorClass = .closed ∧
      s.dru.latched = true ∧ s.dru.opener = .retracted ∧ s.cdu.causes = 0 ∧ s.dsu.live = [] ∧ s.hcu.pendingMove = some z ∧
      s.hcu.move = none ∧ s.hcu.fixed = false ∧ s.hcu.pumpRuns = false ∧ s.hcu.cam ≠ .at z) :=
  ⟨⟨.upper, ⟨.zone .upper, 3999, false⟩,
   { washing .heat with hcu.cam := .between, hcu.move := some ⟨.zone .upper, 3999, false⟩ }, by decide⟩,
   ⟨.at .top, ⟨.zone .upper, 3999, false⟩,
   { washing .heat with hcu.cam := .between, hcu.move := some ⟨.zone .upper, 3999, false⟩ }, by intro z; cases z <;> decide,
   by rintro ⟨⟩, by decide⟩,
   ⟨{ washing .heat with hcu.move := some ⟨.zone .upper, 3999, false⟩ }, by rintro _ ⟨⟩; decide⟩,
   ⟨.upper, 4000, inStage .heat, { washing .heat with hcu.move := some ⟨.zone .upper, 4000, false⟩, cdu.traps := 128 },
   by decide⟩,
   ⟨.upper, 4000, inStage .heat, { washing .heat with hcu.move := some ⟨.zone .upper, 4000, false⟩ }, by decide⟩,
   ⟨.upper, 4000, inStage .heat, { washing .heat with hcu.move := some ⟨.zone .upper, 4000, false⟩, hcu.cam := .between },
   by decide⟩,
   ⟨⟨.anyZone, 4000, true⟩, { testing [.diverter] with hcu.move := some ⟨.anyZone, 4000, true⟩ }, by decide⟩,
   ⟨.lower, { washing .heat with hcu.mask := 1, hcu.periodMs := 30000 }, by intro y; cases y <;> decide, by decide⟩,
   ⟨.lower, { washing .heat with hcu.mask := 5, hcu.periodMs := 30000 }, .top, by decide⟩,
   ⟨{ washing .heat with hcu.periodMs := 29999 }, by decide⟩,
   ⟨.top, ⟨.anyZone, 3999, true⟩, { testing [.diverter] with hcu.move := some ⟨.anyZone, 3999, true⟩ }, .fan, by decide⟩,
   ⟨.upper, inStage .heat, { inHold (inStage .heat) with hcu.pendingMove := some .upper, hcu.cam := .at .upper }, by decide⟩,
   ⟨.upper, inStage .heat, { inHold (inStage .heat) with hcu.pendingMove := some .upper, hcu.cam := .between }, by decide⟩⟩

theorem test_armsAreWatched_premises :
    (∃ (a : Arm) (x : Arm) (s : State) (n : _) (z : _),
      x ≠ a ∧ (s.arm a).sinceMs = none ∧ s.hcu.watch = .watching n ∧ s.hcu.demand ≠ none ∧ s.dru.opener = .retracted ∧
      s.cdu.mode = .run ∧ s.hcu.move = none ∧ s.hcu.cam = .at z) ∧
    (∃ (a : Arm) (x : Arm) (s : State) (n : _), (∀ n, s.hcu.watch ≠ .watching n) ∧ x ≠ a ∧ (s.arm a).sinceMs = some n) ∧
    (∃ (n : Nat) (s : State), s.hcu.watch = .grace n ∧ 3000 ≤ n) ∧
    (∃ (s : State), (∀ n, s.hcu.watch = .grace n → n < 3000)) ∧
    (∃ (s : State), ((∀ n, s.hcu.watch ≠ .watching n) ∨ s.hcu.pumpRuns = false ∧ s.hcu.demand = none)) ∧
    (∃ (n : Nat) (z : Zone) (a : ActivePhase) (s : State),
      s.hcu.watch = .watching n ∧ 6000 ≤ n ∧ s.hcu.demand ≠ none ∧ s.dru.opener = .retracted ∧ s.cdu.mode = .run ∧
      s.hcu.move = none ∧ s.hcu.cam = .at z ∧ s.wsc.wash = .running ∧ s.wsc.active = some a ∧
      (a.stage = .heat ∨ a.stage = .hold ∨ a.stage = .sense) ∧ s.hcu.mask ≤ 7 ∧ s.hcu.dropped ≤ 7 ∧
      hasCondition s.cdu.traps .armStalled) ∧
    (∃ (n : Nat) (z : Zone) (a : ActivePhase) (s : State),
      (s.hcu.fixed = true ∨ (∀ y : Zone, y ≠ z → s.hcu.mask.testBit y.bitIdx = false)) ∧ s.hcu.watch = .watching n ∧
      6000 ≤ n ∧ s.hcu.demand ≠ none ∧ s.dru.opener = .retracted ∧ s.cdu.mode = .run ∧ s.hcu.move = none ∧ s.hcu.cam = .at z ∧
      s.wsc.wash = .running ∧ s.wsc.active = some a ∧ (a.stage = .heat ∨ a.stage = .hold ∨ a.stage = .sense) ∧
      s.hcu.mask ≤ 7 ∧ s.hcu.dropped ≤ 7 ∧ ¬hasCondition s.cdu.traps .armStalled) ∧
    (∃ (n : Nat) (z : Zone) (a : ActivePhase) (s : State) (y : Zone),
      s.hcu.watch = .watching n ∧ 6000 ≤ n ∧ s.hcu.demand ≠ none ∧ s.dru.opener = .retracted ∧ s.cdu.mode = .run ∧
      s.hcu.move = none ∧ s.hcu.cam = .at z ∧ s.wsc.wash = .running ∧ s.wsc.active = some a ∧
      (a.stage = .heat ∨ a.stage = .hold ∨ a.stage = .sense) ∧ s.hcu.mask ≤ 7 ∧ s.hcu.dropped ≤ 7 ∧
      ¬hasCondition s.cdu.traps .armStalled ∧ s.hcu.fixed = false ∧ s.hcu.mask.testBit y.bitIdx = true ∧
      (y = z.next ∨ y = z.next.next ∧ s.hcu.mask.testBit z.next.bitIdx = false)) ∧
    (∃ (n : Nat) (s : State), s.hcu.watch = .watching n ∧ n < 6000) :=
  ⟨⟨.lower, .upper, { washing .heat with hcu.watch := .watching 5999 }, 5999, .lower, by decide⟩,
   ⟨.upper, .lower, { atRest with hcu.upperArm.sinceMs := some 65536 }, 65536, by rintro _ ⟨⟩, by decide⟩,
   ⟨3000, { washing .heat with hcu.watch := .grace 3000 }, by decide⟩,
   ⟨{ washing .heat with hcu.watch := .grace 2999 }, by rintro _ ⟨⟩; decide⟩,
   ⟨{ atRest with hcu.watch := .watching 6000 }, Or.inr (by decide)⟩,
   ⟨6000, .lower, inStage .heat, { washing .heat with hcu.watch := .watching 6000, cdu.traps := 64 }, by decide⟩,
   ⟨6000, .lower, inStage .heat, { washing .heat with hcu.watch := .watching 6000, hcu.mask := 1 },
   Or.inr (by intro y; cases y <;> decide), by decide⟩,
   ⟨6000, .lower, inStage .heat, { washing .heat with hcu.watch := .watching 6000 }, .upper, by decide⟩,
   ⟨5999, { washing .heat with hcu.watch := .watching 5999 }, by decide⟩⟩

theorem test_hingeCountsEveryEdge_premises :
    (∃ (c : Channel) (rising : Bool) (d : Direction) (s : State),
      (d = .opening ↔ (if c = .a then rising ≠ s.dru.encB else rising = s.dru.encA)) ∧ s.dru.doorClosed = true) ∧
    (∃ (c : Channel) (rising : Bool) (d : Direction) (s : State),
      (d = .opening ↔ (if c = .a then rising ≠ s.dru.encB else rising = s.dru.encA)) ∧ s.dru.doorClosed = false ∧ d = .opening) ∧
    (∃ (c : Channel) (rising : Bool) (d : Direction) (s : State),
      (d = .opening ↔ (if c = .a then rising ≠ s.dru.encB else rising = s.dru.encA)) ∧ s.dru.doorClosed = false ∧
      d = .closing ∧ s.dyc.run = none ∧ s.testing .heater = false) :=
  ⟨⟨.a, true, .opening, atRest, by decide⟩,
   ⟨.a, true, .opening, { atRest with dru.doorClosed := false, dru.angle := 1023 }, by decide⟩,
   ⟨.b, true, .closing, { atRest with dru.doorClosed := false, dru.angle := 0 }, by decide⟩⟩

theorem test_doorAndLatchAreFollowed_premises :
    (∃ (b : Bool) (s : State), s.dru.doorClosed = b) ∧
    (∃ (b : Bool) (s : State), s.dru.latched = b) ∧
    (∃ (b : Bool) (s : State), s.dru.doorClosed ≠ b) ∧
    (∃ (b : Bool) (s : State), s.dru.latched ≠ b ∧ b = false ∧ s.dru.phase = some .releasing ∧ s.dru.endExtended = false) ∧
    (∃ (b : Bool) (s : State), s.dru.latched ≠ b ∧ (b = true ∨ s.dru.phase ≠ some .releasing)) ∧
    (∃ (cmd : Instr) (s : State) (t : State) (a : _),
      exec cmd s = .next t ∧
      (cmd = .doorClosedSwitchChange false ∧ s.dru.doorClosed = true ∨ cmd = .latchSwitchChange false ∧ s.dru.latched = true) ∧
      s.cdu.mode = .run ∧ s.wsc.wash = .running ∧ s.wsc.active = some a ∧ a.record.kind ≠ .dry) ∧
    (∃ (cmd : Instr) (s : State) (t : State),
      exec cmd s = .next t ∧
      (cmd = .doorClosedSwitchChange false ∧ s.dru.doorClosed = true ∨ cmd = .latchSwitchChange false ∧ s.dru.latched = true) ∧
      s.testing .heater = true) :=
  ⟨⟨true, atRest, by decide⟩,
   ⟨true, atRest, by decide⟩,
   ⟨false, atRest, by decide⟩,
   ⟨false, moving .extending .releasing .host, by decide⟩,
   ⟨true, { atRest with dru.latched := false }, by decide⟩,
   ⟨.doorClosedSwitchChange false, inRun (inStage .hold), _, inStage .hold, rfl, by decide⟩,
   ⟨.latchSwitchChange false, testing [.circPump, .heater], _, rfl, by decide⟩⟩

theorem test_openerMovesEnd_premises :
    (∃ (s : State), (s.dru.phase ≠ some .releasing ∨ s.dru.moveMs < 500)) ∧
    (∃ (s : State), (s.dru.phase ≠ some .driving ∨ s.dru.moveMs < 6000)) ∧
    (∃ (cmd : Instr) (s : State),
      (cmd = .releaseTimeout ∧ s.dru.phase = some .releasing ∧ 500 ≤ s.dru.moveMs ∨ cmd = .openerDriveTimeout ∧
        s.dru.phase = some .driving ∧ 6000 ≤ s.dru.moveMs) ∧
      s.dru.issuer = .host) ∧
    (∃ (cmd : Instr) (s : State),
      (cmd = .releaseTimeout ∧ s.dru.phase = some .releasing ∧ 500 ≤ s.dru.moveMs ∨ cmd = .openerDriveTimeout ∧
        s.dru.phase = some .driving ∧ 6000 ≤ s.dru.moveMs) ∧
      s.dru.issuer = .test) ∧
    (∃ (b : Bool) (s : State), s.dru.endRetracted = b) ∧
    (∃ (b : Bool) (s : State), s.dru.endExtended = b) ∧
    (∃ (b : Bool) (s : State),
      s.dru.endRetracted ≠ b ∧ (b = false ∨ s.dru.phase ≠ some .driving ∨ s.dru.opener ≠ .retracting)) ∧
    (∃ (b : Bool) (s : State),
      s.dru.endExtended ≠ b ∧ (b = false ∨ s.dru.phase ≠ some .driving ∨ s.dru.opener ≠ .extending)) ∧
    (∃ (s : State),
      s.dru.phase = some .driving ∧ s.dru.issuer = .host ∧ s.dru.endExtended = false ∧ s.dru.opener = .extending) ∧
    (∃ (s : State),
      s.dru.phase = some .driving ∧ s.dru.issuer = .host ∧ s.dru.endRetracted = false ∧ s.dru.opener = .retracting) :=
  ⟨⟨{ moving .extending .releasing .host with dru.moveMs := 499 }, by decide⟩,
   ⟨{ moving .extending .driving .host with dru.moveMs := 5999 }, by decide⟩,
   ⟨.releaseTimeout, { moving .extending .releasing .host with dru.moveMs := 500 }, by decide⟩,
   ⟨.openerDriveTimeout, { moving .extending .driving .test with dru.moveMs := 6000 }, by decide⟩,
   ⟨true, atRest, by decide⟩,
   ⟨false, atRest, by decide⟩,
   ⟨false, { moving .retracting .driving .host with dru.endRetracted := true }, by decide⟩,
   ⟨true, atRest, by decide⟩,
   ⟨moving .extending .driving .host, by decide⟩,
   ⟨moving .retracting .driving .host, by decide⟩⟩

theorem test_dryingMeetsTheDoor_premises :
    (∃ (a : ActivePhase) (p : PhaseRecord) (rest : List PhaseRecord) (x : ProgramContext) (s : State),
      (∃ d, s.wpu.drain = some d ∧ 8000 ≤ d.emptyMs) ∧ s.wpu.waterPresent = false ∧ s.wsc.abortDrain = false ∧
      s.wsc.active = some a ∧ s.wsc.wash = .running ∧ a.stage = .drain ∧ s.cdu.mode = .run ∧ s.wsc.queue = p :: rest ∧
      p.kind = .dry ∧ s.sfu.run = none ∧ s.wsc.ctx = some x ∧
      (s.doorClass = .closed ∨ p.openDoor = false ∧ s.doorClass = .ajar)) ∧
    (∃ (a : ActivePhase) (p : PhaseRecord) (rest : List PhaseRecord) (x : ProgramContext) (s : State),
      (∃ d, s.wpu.drain = some d ∧ 8000 ≤ d.emptyMs) ∧ s.wpu.waterPresent = false ∧ s.wsc.abortDrain = false ∧
      s.wsc.active = some a ∧ s.wsc.wash = .running ∧ a.stage = .drain ∧ s.cdu.mode = .run ∧ s.wsc.queue = p :: rest ∧
      p.kind = .dry ∧ s.sfu.run = none ∧ s.wsc.ctx = some x ∧ p.openDoor = true ∧ s.doorClass = .ajar) ∧
    (∃ (a : ActivePhase) (p : PhaseRecord) (rest : List PhaseRecord) (x : ProgramContext) (s : State),
      (∃ d, s.wpu.drain = some d ∧ 8000 ≤ d.emptyMs) ∧ s.wpu.waterPresent = false ∧ s.wsc.abortDrain = false ∧
      s.wsc.active = some a ∧ s.wsc.wash = .running ∧ a.stage = .drain ∧ s.cdu.mode = .run ∧ s.wsc.queue = p :: rest ∧
      p.kind = .dry ∧ s.sfu.run = none ∧ s.wsc.ctx = some x ∧ s.doorClass = .open ∧ rest = []) ∧
    (∃ (r : DryRun) (a : ActivePhase) (s : State),
      s.dyc.run = some r ∧ s.wsc.active = some a ∧ a.record.kind = .dry ∧ a.stage = .drying ∧ s.dru.doorClosed = true ∧
      s.dru.referenced = true ∧ s.testing .heater = false ∧ s.wsc.wash = .running ∧ r.suspended = false ∧ r.state = .cooling) ∧
    (∃ (r : DryRun) (a : ActivePhase) (s : State),
      s.dyc.run = some r ∧ s.wsc.active = some a ∧ a.record.kind = .dry ∧ a.stage = .drying ∧ s.dru.doorClosed = true ∧
      s.dru.referenced = true ∧ s.testing .heater = false ∧
      (r.suspended = true ∨ r.state = .closedDry ∨ r.state = .opening ∨ r.state = .ending)) ∧
    (∃ (r : DryRun) (a : ActivePhase) (s : State),
      s.dyc.run = some r ∧ s.wsc.active = some a ∧ a.record.kind = .dry ∧ a.stage = .drying ∧ s.dru.doorClosed = true ∧
      s.dru.referenced = true ∧ s.testing .heater = false ∧
      (r.suspended = true ∨ r.state = .closedDry ∨ r.state = .opening ∨ r.state = .ending)) ∧
    (∃ (r : DryRun) (a : ActivePhase) (x : ProgramContext) (s : State),
      (s.wsc.queue = [] ∨ (∃ p rest, s.wsc.queue = p :: rest ∧ p.kind = .drain ∧ s.dru.latched = true ∧ s.sfu.run = none)) ∧
      s.dyc.run = some r ∧ r.suspended = false ∧ s.wsc.wash = .running ∧ s.wsc.active = some a ∧ a.record.kind = .dry ∧
      a.stage = .drying ∧ s.cdu.mode = .run ∧ s.wsc.ctx = some x ∧ s.dru.doorClosed = false ∧ s.testing .heater = false ∧
      (r.state = .ajar ∨ r.state = .yielding) ∧ r.state = .ajar ∧ s.dru.opener = .extended ∧ s.dru.endRetracted = false ∧
      s.wsc.queue = []) ∧
    (∃ (r : DryRun) (a : ActivePhase) (x : ProgramContext) (s : State) (p : _) (rest : _),
      (s.wsc.queue = [] ∨ (∃ p rest, s.wsc.queue = p :: rest ∧ p.kind = .drain ∧ s.dru.latched = true ∧ s.sfu.run = none)) ∧
      s.dyc.run = some r ∧ r.suspended = false ∧ s.wsc.wash = .running ∧ s.wsc.active = some a ∧ a.record.kind = .dry ∧
      a.stage = .drying ∧ s.cdu.mode = .run ∧ s.wsc.ctx = some x ∧ s.dru.doorClosed = false ∧ s.testing .heater = false ∧
      (r.state = .ajar ∨ r.state = .yielding) ∧ (r.state = .yielding ∨ s.dru.opener ≠ .extended) ∧ s.wsc.queue = p :: rest) ∧
    (∃ (r : DryRun) (a : ActivePhase) (x : ProgramContext) (s : State),
      (s.wsc.queue = [] ∨ (∃ p rest, s.wsc.queue = p :: rest ∧ p.kind = .drain ∧ s.sfu.run = none)) ∧ s.dyc.run = some r ∧
      r.suspended = false ∧ s.wsc.wash = .running ∧ s.wsc.active = some a ∧ a.record.kind = .dry ∧ a.stage = .drying ∧
      s.cdu.mode = .run ∧ s.wsc.ctx = some x ∧ s.dru.doorClosed = false ∧ s.dru.referenced = true ∧ s.dru.angle = 150 ∧
      s.dru.encB = false ∧ s.testing .heater = false ∧
      (r.state = .cooling ∨ r.state = .ajar ∨ r.state = .yielding ∨ r.state = .closedDry) ∧ r.state = .ajar ∧
      s.dru.opener = .extended ∧ s.dru.endRetracted = false ∧ s.wsc.queue = []) ∧
    (∃ (r : DryRun) (a : ActivePhase) (x : ProgramContext) (s : State) (p : _) (rest : _),
      (s.wsc.queue = [] ∨ (∃ p rest, s.wsc.queue = p :: rest ∧ p.kind = .drain ∧ s.sfu.run = none)) ∧ s.dyc.run = some r ∧
      r.suspended = false ∧ s.wsc.wash = .running ∧ s.wsc.active = some a ∧ a.record.kind = .dry ∧ a.stage = .drying ∧
      s.cdu.mode = .run ∧ s.wsc.ctx = some x ∧ s.dru.doorClosed = false ∧ s.dru.referenced = true ∧ s.dru.angle = 150 ∧
      s.dru.encB = false ∧ s.testing .heater = false ∧
      (r.state = .cooling ∨ r.state = .ajar ∨ r.state = .yielding ∨ r.state = .closedDry) ∧ s.wsc.queue = p :: rest) ∧
    (∃ (r : DryRun) (a : ActivePhase) (x : ProgramContext) (s : State),
      (s.wsc.queue = [] ∨ (∃ p rest, s.wsc.queue = p :: rest ∧ p.kind = .drain ∧ s.sfu.run = none)) ∧ s.dyc.run = some r ∧
      r.suspended = false ∧ s.wsc.wash = .running ∧ s.wsc.active = some a ∧ a.record.kind = .dry ∧ a.stage = .drying ∧
      s.cdu.mode = .run ∧ s.wsc.ctx = some x ∧ s.dru.doorClosed = false ∧ s.dru.referenced = true ∧ s.dru.angle = 150 ∧
      s.dru.encB = false ∧ s.testing .heater = false ∧
      (r.state = .cooling ∨ r.state = .ajar ∨ r.state = .yielding ∨ r.state = .closedDry) ∧ s.wsc.queue = []) ∧
    (∃ (r : DryRun) (n : Nat) (s : State),
      s.dyc.run = some r ∧ r.suspended = false ∧ r.state = .ajar ∧ s.dru.opener = .extended ∧ s.dru.doorClosed = false ∧
      s.dru.referenced = true ∧ s.dru.angle ≤ 150 ∧ s.dru.encA = false ∧ r.rest = some n ∧ s.dru.endRetracted = false ∧
      s.cdu.mode ≠ .safe ∧ 1 ≤ s.dru.angle ∧ s.dru.angle - 1 + 20 ≤ n) ∧
    (∃ (r : DryRun) (n : Nat) (s : State),
      s.dyc.run = some r ∧ r.suspended = false ∧ r.state = .ajar ∧ s.dru.opener = .extended ∧ s.dru.doorClosed = false ∧
      s.dru.referenced = true ∧ s.dru.angle ≤ 150 ∧ s.dru.encA = false ∧ r.rest = some n ∧ s.dru.endRetracted = false ∧
      s.cdu.mode ≠ .safe ∧ 1 ≤ s.dru.angle ∧ n < s.dru.angle - 1 + 20) :=
  ⟨⟨inStage .drain, dryPhase, [], ⟨none, false, 0⟩,
   { inRun (inStage .drain) with
     wpu.drain := some ⟨60000, 8000⟩, wsc.queue := [dryPhase], dru.doorClosed := false, dru.referenced := true, dru.angle := 100 },
   ⟨_, rfl, by decide⟩, by decide⟩,
   ⟨inStage .drain, { dryPhase with openDoor := true }, [], ⟨none, false, 0⟩,
   { inRun (inStage .drain) with
     wpu.drain := some ⟨60000, 8000⟩, wsc.queue := [{ dryPhase with openDoor := true }], dru.doorClosed := false,
     dru.referenced := true, dru.angle := 100 },
   ⟨_, rfl, by decide⟩, by decide⟩,
   ⟨inStage .drain, dryPhase, [], ⟨none, false, 0⟩,
   { inRun (inStage .drain) with
     wpu.drain := some ⟨60000, 8000⟩, wsc.queue := [dryPhase], dru.doorClosed := false, dru.angle := 500 },
   ⟨_, rfl, by decide⟩, by decide⟩,
   ⟨dryRun .cooling, { inStage .drying with record := dryPhase },
   { inRun { inStage .drying with record := dryPhase } with dyc.run := some (dryRun .cooling), dru.referenced := true },
   by decide⟩,
   ⟨{ dryRun .ajar with suspended := true }, { inStage .drying with record := dryPhase },
   { inHold { inStage .drying with record := dryPhase } with
     dyc.run := some { dryRun .ajar with suspended := true }, dru.referenced := true },
   by decide⟩,
   ⟨dryRun .closedDry, { inStage .drying with record := dryPhase },
   { inRun { inStage .drying with record := dryPhase } with dyc.run := some (dryRun .closedDry), dru.referenced := true },
   by decide⟩,
   ⟨dryRun .ajar, { inStage .drying with record := dryPhase }, ⟨none, false, 0⟩,
   { inRun { inStage .drying with record := dryPhase } with
     dyc.run := some (dryRun .ajar), dru.doorClosed := false, dru.referenced := true, dru.angle := 100, dru.opener := .extended,
     dru.endRetracted := false },
   Or.inl rfl, by decide⟩,
   ⟨dryRun .yielding, { inStage .drying with record := dryPhase }, ⟨none, false, 0⟩,
   { inRun { inStage .drying with record := dryPhase } with
     dyc.run := some (dryRun .yielding), dru.doorClosed := false, dru.referenced := true, dru.angle := 100,
     wsc.queue := [drainPhase] },
   drainPhase, [], Or.inr ⟨drainPhase, [], by decide⟩, by decide⟩,
   ⟨dryRun .ajar, { inStage .drying with record := dryPhase }, ⟨none, false, 0⟩,
   { inRun { inStage .drying with record := dryPhase } with
     dyc.run := some (dryRun .ajar), dru.doorClosed := false, dru.referenced := true, dru.angle := 150, dru.opener := .extended,
     dru.endRetracted := false },
   Or.inl rfl, by decide⟩,
   ⟨dryRun .closedDry, { inStage .drying with record := dryPhase }, ⟨none, false, 0⟩,
   { inRun { inStage .drying with record := dryPhase } with
     dyc.run := some (dryRun .closedDry), dru.doorClosed := false, dru.referenced := true, dru.angle := 150,
     wsc.queue := [drainPhase] },
   drainPhase, [], Or.inr ⟨drainPhase, [], by decide⟩, by decide⟩,
   ⟨dryRun .cooling, { inStage .drying with record := dryPhase }, ⟨none, false, 0⟩,
   { inRun { inStage .drying with record := dryPhase } with
     dyc.run := some (dryRun .cooling), dru.doorClosed := false, dru.referenced := true, dru.angle := 150 },
   Or.inl rfl, by decide⟩,
   ⟨{ dryRun .ajar with rest := some 100 }, 100,
   { drying { dryRun .ajar with rest := some 100 } with
     dru.doorClosed := false, dru.referenced := true, dru.angle := 81, dru.opener := .extended, dru.endRetracted := false },
   by decide⟩,
   ⟨{ dryRun .ajar with rest := some 100 }, 100,
   { drying { dryRun .ajar with rest := some 100 } with
     dru.doorClosed := false, dru.referenced := true, dru.angle := 82, dru.opener := .extended, dru.endRetracted := false },
   by decide⟩⟩

theorem test_dryMovesEnd_premises :
    (∃ (r : DryRun) (s : State),
      s.dyc.run = some r ∧ r.suspended = false ∧ r.state = .opening ∧ r.outstanding = some ⟨.extend, true⟩ ∧
      s.dru.opener = .extending ∧ s.dru.phase = some .driving ∧ s.dru.issuer = .dry ∧ s.dru.commanded = .extend ∧
      s.dru.endExtended = false ∧ s.doorClass = .ajar) ∧
    (∃ (cmd : Instr) (r : DryRun) (c : OpenerCmd) (a : ActivePhase) (x : ProgramContext) (s : State),
      s.dyc.run = some r ∧ r.suspended = false ∧ (r.state = .opening ∨ r.state = .yielding) ∧ r.outstanding = some ⟨c, true⟩ ∧
      s.dru.issuer = .dry ∧ s.wsc.wash = .running ∧ s.wsc.active = some a ∧ a.stage = .drying ∧ s.cdu.mode = .run ∧
      s.wsc.ctx = some x ∧
      (cmd = .releaseTimeout ∧ s.dru.phase = some .releasing ∧ 500 ≤ s.dru.moveMs ∨ cmd = .openerDriveTimeout ∧
        s.dru.phase = some .driving ∧ 6000 ≤ s.dru.moveMs) ∧
      r.dryMs < r.dryTime * 1000) ∧
    (∃ (cmd : Instr) (r : DryRun) (c : OpenerCmd) (a : ActivePhase) (x : ProgramContext) (s : State),
      (s.wsc.queue = [] ∨ (∃ p rest, s.wsc.queue = p :: rest ∧ p.kind = .drain ∧ s.doorClass = .closed ∧ s.dru.latched = true ∧
        s.sfu.run = none)) ∧
      s.dyc.run = some r ∧ r.suspended = false ∧ (r.state = .opening ∨ r.state = .yielding) ∧ r.outstanding = some ⟨c, true⟩ ∧
      s.dru.issuer = .dry ∧ s.wsc.wash = .running ∧ s.wsc.active = some a ∧ a.stage = .drying ∧ s.cdu.mode = .run ∧
      s.wsc.ctx = some x ∧
      (cmd = .releaseTimeout ∧ s.dru.phase = some .releasing ∧ 500 ≤ s.dru.moveMs ∨ cmd = .openerDriveTimeout ∧
        s.dru.phase = some .driving ∧ 6000 ≤ s.dru.moveMs) ∧
      r.dryTime * 1000 ≤ r.dryMs ∧ s.wsc.queue = []) ∧
    (∃ (cmd : Instr) (r : DryRun) (c : OpenerCmd) (a : ActivePhase) (x : ProgramContext) (s : State) (p : _) (rest : _),
      (s.wsc.queue = [] ∨ (∃ p rest, s.wsc.queue = p :: rest ∧ p.kind = .drain ∧ s.doorClass = .closed ∧ s.dru.latched = true ∧
        s.sfu.run = none)) ∧
      s.dyc.run = some r ∧ r.suspended = false ∧ (r.state = .opening ∨ r.state = .yielding) ∧ r.outstanding = some ⟨c, true⟩ ∧
      s.dru.issuer = .dry ∧ s.wsc.wash = .running ∧ s.wsc.active = some a ∧ a.stage = .drying ∧ s.cdu.mode = .run ∧
      s.wsc.ctx = some x ∧
      (cmd = .releaseTimeout ∧ s.dru.phase = some .releasing ∧ 500 ≤ s.dru.moveMs ∨ cmd = .openerDriveTimeout ∧
        s.dru.phase = some .driving ∧ 6000 ≤ s.dru.moveMs) ∧
      r.dryTime * 1000 ≤ r.dryMs ∧ s.wsc.queue = p :: rest) ∧
    (∃ (r : DryRun) (a : ActivePhase) (x : ProgramContext) (s : State),
      s.dyc.run = some r ∧ r.suspended = false ∧ r.outstanding = some ⟨.retract, true⟩ ∧ s.dru.opener = .retracting ∧
      s.dru.phase = some .driving ∧ s.dru.issuer = .dry ∧ s.dru.commanded = .retract ∧ s.dru.endRetracted = false ∧
      s.wsc.wash = .running ∧ s.wsc.active = some a ∧ a.stage = .drying ∧ s.cdu.mode = .run ∧ s.wsc.ctx = some x ∧
      r.state = .opening ∧ s.hcu.heat = none ∧ s.hcu.energised = false ∧ s.hcu.demand = none ∧ s.testing .circPump = false ∧
      s.dru.endExtended = false ∧ s.dru.latched = true) ∧
    (∃ (r : DryRun) (a : ActivePhase) (x : ProgramContext) (s : State),
      s.dyc.run = some r ∧ r.suspended = false ∧ r.outstanding = some ⟨.retract, true⟩ ∧ s.dru.opener = .retracting ∧
      s.dru.phase = some .driving ∧ s.dru.issuer = .dry ∧ s.dru.commanded = .retract ∧ s.dru.endRetracted = false ∧
      s.wsc.wash = .running ∧ s.wsc.active = some a ∧ a.stage = .drying ∧ s.cdu.mode = .run ∧ s.wsc.ctx = some x ∧
      r.state = .opening ∧ s.hcu.heat = none ∧ s.hcu.energised = false ∧ s.hcu.demand = none ∧ s.testing .circPump = false ∧
      s.dru.endExtended = false ∧ s.dru.latched = false) ∧
    (∃ (r : DryRun) (a : ActivePhase) (x : ProgramContext) (s : State) (cmd : Instr) (o : DryOutcome),
      (s.wsc.queue = [] ∨ (∃ p rest, s.wsc.queue = p :: rest ∧ p.kind = .drain ∧ s.doorClass = .closed ∧ s.dru.latched = true ∧
        s.sfu.run = none)) ∧
      s.dyc.run = some r ∧ r.suspended = false ∧ r.outstanding = some ⟨.retract, true⟩ ∧ s.dru.opener = .retracting ∧
      s.dru.phase = some .driving ∧ s.dru.issuer = .dry ∧ s.dru.commanded = .retract ∧ s.dru.endRetracted = false ∧
      s.wsc.wash = .running ∧ s.wsc.active = some a ∧ a.stage = .drying ∧ s.cdu.mode = .run ∧ s.wsc.ctx = some x ∧
      r.state = .ending ∧
      (cmd = .endSwitchChange .retracted true ∧ o = .done ∨ cmd = .openerDriveTimeout ∧ 6000 ≤ s.dru.moveMs ∧ o = .degraded) ∧
      o = .done ∧ s.wsc.queue = []) ∧
    (∃ (r : DryRun) (a : ActivePhase) (x : ProgramContext) (s : State) (cmd : Instr) (o : DryOutcome) (p : _) (rest : _),
      (s.wsc.queue = [] ∨ (∃ p rest, s.wsc.queue = p :: rest ∧ p.kind = .drain ∧ s.doorClass = .closed ∧ s.dru.latched = true ∧
        s.sfu.run = none)) ∧
      s.dyc.run = some r ∧ r.suspended = false ∧ r.outstanding = some ⟨.retract, true⟩ ∧ s.dru.opener = .retracting ∧
      s.dru.phase = some .driving ∧ s.dru.issuer = .dry ∧ s.dru.commanded = .retract ∧ s.dru.endRetracted = false ∧
      s.wsc.wash = .running ∧ s.wsc.active = some a ∧ a.stage = .drying ∧ s.cdu.mode = .run ∧ s.wsc.ctx = some x ∧
      r.state = .ending ∧
      (cmd = .endSwitchChange .retracted true ∧ o = .done ∨ cmd = .openerDriveTimeout ∧ 6000 ≤ s.dru.moveMs ∧ o = .degraded) ∧
      o = .degraded ∧ s.wsc.queue = p :: rest) ∧
    (∃ (r : DryRun) (a : ActivePhase) (x : ProgramContext) (s : State),
      s.dyc.run = some r ∧ r.suspended = false ∧ r.outstanding = some ⟨.retract, true⟩ ∧ s.dru.opener = .retracting ∧
      s.dru.phase = some .driving ∧ s.dru.issuer = .dry ∧ s.dru.commanded = .retract ∧ s.dru.endRetracted = false ∧
      s.wsc.wash = .running ∧ s.wsc.active = some a ∧ a.stage = .drying ∧ s.cdu.mode = .run ∧ s.wsc.ctx = some x ∧
      r.state = .yielding) ∧
    (∃ (r : DryRun) (c : OpenerCmd) (s : State),
      s.dyc.run = some r ∧ r.suspended = true ∧ r.state ≠ .ended ∧ r.outstanding = some ⟨c, true⟩ ∧
      s.dru.phase = some .driving ∧ s.dru.issuer = .dry ∧ s.dru.commanded = c ∧ 6000 ≤ s.dru.moveMs) ∧
    (∃ (r : DryRun) (c : OpenerCmd) (s : State),
      s.dyc.run = some r ∧ r.suspended = true ∧ r.state ≠ .ended ∧ r.outstanding = some ⟨c, true⟩ ∧
      s.dru.phase = some .driving ∧ s.dru.issuer = .dry ∧ s.dru.commanded = c ∧ s.dru.opener = .extending ∧
      s.dru.endExtended = false) ∧
    (∃ (a : ActivePhase) (r : DryRun) (s : State),
      s.wsc.wash = .held ∧ s.cdu.mode = .run ∧ s.wsc.active = some a ∧ a.record.kind = .dry ∧ a.stage = .drying ∧
      s.cdu.causes = 0 ∧ s.dsu.live = [] ∧ s.dyc.run = some r ∧ r.suspended = true ∧ r.state = .opening ∧
      r.pendingEnd = some ⟨.extend, .done⟩ ∧ s.dru.opener = .extended ∧ s.doorClass = .ajar) ∧
    (∃ (a : ActivePhase) (r : DryRun) (s : State),
      (r.pendingEnd = none ∨ (∃ c, r.pendingEnd = some ⟨c, .stopped⟩)) ∧ s.wsc.wash = .held ∧ s.cdu.mode = .run ∧
      s.wsc.active = some a ∧ a.record.kind = .dry ∧ a.stage = .drying ∧ s.cdu.causes = 0 ∧ s.dsu.live = [] ∧
      s.dyc.run = some r ∧ r.suspended = true ∧ (r.state = .yielding ∨ r.state = .ending) ∧ s.dru.opener = .unknownPosition ∧
      s.dru.endRetracted = false ∧ s.doorClass = .ajar) ∧
    (∃ (a : ActivePhase) (r : DryRun) (s : State),
      (r.pendingEnd = none ∨ (∃ c, r.pendingEnd = some ⟨c, .stopped⟩)) ∧ s.wsc.wash = .held ∧ s.cdu.mode = .run ∧
      s.wsc.active = some a ∧ a.record.kind = .dry ∧ a.stage = .drying ∧ s.cdu.causes = 0 ∧ s.dsu.live = [] ∧
      s.dyc.run = some r ∧ r.suspended = true ∧ (r.state = .yielding ∨ r.state = .ending) ∧ s.dru.opener = .unknownPosition ∧
      s.dru.endRetracted = false ∧ s.doorClass = .ajar) ∧
    (∃ (a : ActivePhase) (r : DryRun) (s : State),
      s.wsc.wash = .held ∧ s.cdu.mode = .run ∧ s.wsc.active = some a ∧ a.record.kind = .dry ∧ a.stage = .drying ∧
      s.cdu.causes = 0 ∧ s.dsu.live = [] ∧ s.dyc.run = some r ∧ r.suspended = true ∧
      (r.state = .cooling ∨ r.state = .ajar ∨ r.state = .yielding ∨ r.state = .closedDry) ∧ r.pendingEnd = none ∧
      r.outstanding = none ∧ s.dru.opener = .retracted ∧ s.doorClass = .open ∧ s.wsc.queue = []) ∧
    (∃ (r : DryRun) (s : State),
      s.dyc.run = some r ∧ r.state = .ended ∧ r.outstanding = some ⟨.extend, true⟩ ∧ s.dru.issuer = .dry ∧
      s.dru.commanded = .extend ∧ s.cdu.mode = .standby ∧ s.dru.opener = .extending ∧ s.dru.phase = some .driving ∧
      s.dru.endExtended = false ∧ s.dru.endRetracted = false) ∧
    (∃ (r : DryRun) (s : State),
      s.dyc.run = some r ∧ r.state = .ended ∧ r.outstanding = some ⟨.extend, true⟩ ∧ s.dru.issuer = .dry ∧
      s.dru.commanded = .extend ∧ s.cdu.mode = .standby ∧ s.dru.opener = .extending ∧ s.dru.phase = some .driving ∧
      6000 ≤ s.dru.moveMs) :=
  ⟨⟨{ dryRun .opening with outstanding := some ⟨.extend, true⟩ },
   { inRun { inStage .drying with record := dryPhase } with
     dyc.run := some { dryRun .opening with outstanding := some ⟨.extend, true⟩ }, dru.opener := .extending,
     dru.phase := some .driving, dru.issuer := .dry, dru.commanded := .extend, dru.endRetracted := false, dru.doorClosed := false,
     dru.referenced := true, dru.angle := 100 },
   by decide⟩,
   ⟨.releaseTimeout, { dryRun .opening with outstanding := some ⟨.extend, true⟩ }, .extend,
   { inStage .drying with record := dryPhase }, ⟨none, false, 0⟩,
   { inRun { inStage .drying with record := dryPhase } with
     dyc.run := some { dryRun .opening with outstanding := some ⟨.extend, true⟩ }, dru.opener := .extending,
     dru.phase := some .releasing, dru.issuer := .dry, dru.commanded := .extend, dru.endRetracted := false, dru.moveMs := 500 },
   by decide⟩,
   ⟨.openerDriveTimeout, { dryRun .yielding with outstanding := some ⟨.retract, true⟩, dryMs := 1800000 }, .retract,
   { inStage .drying with record := dryPhase }, ⟨none, false, 0⟩,
   { inRun { inStage .drying with record := dryPhase } with
     dyc.run := some { dryRun .yielding with outstanding := some ⟨.retract, true⟩, dryMs := 1800000 }, dru.opener := .retracting,
     dru.phase := some .driving, dru.issuer := .dry, dru.commanded := .retract, dru.endRetracted := false, dru.moveMs := 6000 },
   Or.inl rfl, by decide⟩,
   ⟨.openerDriveTimeout, { dryRun .yielding with outstanding := some ⟨.retract, true⟩, dryMs := 1800000 }, .retract,
   { inStage .drying with record := dryPhase }, ⟨none, false, 0⟩,
   { inRun { inStage .drying with record := dryPhase } with
     dyc.run := some { dryRun .yielding with outstanding := some ⟨.retract, true⟩, dryMs := 1800000 }, dru.opener := .retracting,
     dru.phase := some .driving, dru.issuer := .dry, dru.commanded := .retract, dru.endRetracted := false, dru.moveMs := 6000,
     wsc.queue := [drainPhase] },
   drainPhase, [], Or.inr ⟨drainPhase, [], by decide⟩, by decide⟩,
   ⟨{ dryRun .opening with outstanding := some ⟨.retract, true⟩ }, { inStage .drying with record := dryPhase },
   ⟨none, false, 0⟩,
   { inRun { inStage .drying with record := dryPhase } with
     dyc.run := some { dryRun .opening with outstanding := some ⟨.retract, true⟩ }, dru.opener := .retracting,
     dru.phase := some .driving, dru.issuer := .dry, dru.commanded := .retract, dru.endRetracted := false },
   by decide⟩,
   ⟨{ dryRun .opening with outstanding := some ⟨.retract, true⟩ }, { inStage .drying with record := dryPhase },
   ⟨none, false, 0⟩,
   { inRun { inStage .drying with record := dryPhase } with
     dyc.run := some { dryRun .opening with outstanding := some ⟨.retract, true⟩ }, dru.opener := .retracting,
     dru.phase := some .driving, dru.issuer := .dry, dru.commanded := .retract, dru.endRetracted := false, dru.latched := false },
   by decide⟩,
   ⟨{ dryRun .ending with outstanding := some ⟨.retract, true⟩ }, { inStage .drying with record := dryPhase },
   ⟨none, false, 0⟩,
   { inRun { inStage .drying with record := dryPhase } with
     dyc.run := some { dryRun .ending with outstanding := some ⟨.retract, true⟩ }, dru.opener := .retracting,
     dru.phase := some .driving, dru.issuer := .dry, dru.commanded := .retract, dru.endRetracted := false },
   .endSwitchChange .retracted true, .done, Or.inl rfl, by decide⟩,
   ⟨{ dryRun .ending with outstanding := some ⟨.retract, true⟩ }, { inStage .drying with record := dryPhase },
   ⟨none, false, 0⟩,
   { inRun { inStage .drying with record := dryPhase } with
     dyc.run := some { dryRun .ending with outstanding := some ⟨.retract, true⟩ }, dru.opener := .retracting,
     dru.phase := some .driving, dru.issuer := .dry, dru.commanded := .retract, dru.endRetracted := false, dru.moveMs := 6000,
     wsc.queue := [drainPhase] },
   .openerDriveTimeout, .degraded, drainPhase, [], Or.inr ⟨drainPhase, [], by decide⟩, by decide⟩,
   ⟨{ dryRun .yielding with outstanding := some ⟨.retract, true⟩ }, { inStage .drying with record := dryPhase },
   ⟨none, false, 0⟩,
   { inRun { inStage .drying with record := dryPhase } with
     dyc.run := some { dryRun .yielding with outstanding := some ⟨.retract, true⟩ }, dru.opener := .retracting,
     dru.phase := some .driving, dru.issuer := .dry, dru.commanded := .retract, dru.endRetracted := false },
   by decide⟩,
   ⟨{ dryRun .opening with suspended := true, outstanding := some ⟨.extend, true⟩ }, .extend,
   { inHold { inStage .drying with record := dryPhase } with
     dyc.run := some { dryRun .opening with suspended := true, outstanding := some ⟨.extend, true⟩ }, dru.opener := .extending,
     dru.phase := some .driving, dru.issuer := .dry, dru.commanded := .extend, dru.endRetracted := false, dru.moveMs := 6000 },
   by decide⟩,
   ⟨{ dryRun .opening with suspended := true, outstanding := some ⟨.extend, true⟩ }, .extend,
   { inHold { inStage .drying with record := dryPhase } with
     dyc.run := some { dryRun .opening with suspended := true, outstanding := some ⟨.extend, true⟩ }, dru.opener := .extending,
     dru.phase := some .driving, dru.issuer := .dry, dru.commanded := .extend, dru.endRetracted := false },
   by decide⟩,
   ⟨{ inStage .drying with record := dryPhase },
   { dryRun .opening with suspended := true, pendingEnd := some ⟨.extend, .done⟩ },
   { inHold { inStage .drying with record := dryPhase } with
     dyc.run := some { dryRun .opening with suspended := true, pendingEnd := some ⟨.extend, .done⟩ }, dru.opener := .extended,
     dru.endRetracted := false, dru.doorClosed := false, dru.referenced := true, dru.angle := 100 },
   by decide⟩,
   ⟨{ inStage .drying with record := dryPhase },
   { dryRun .yielding with suspended := true, pendingEnd := some ⟨.retract, .stopped⟩ },
   { inHold { inStage .drying with record := dryPhase } with
     dyc.run := some { dryRun .yielding with suspended := true, pendingEnd := some ⟨.retract, .stopped⟩ },
     dru.opener := .unknownPosition, dru.endRetracted := false, dru.doorClosed := false, dru.referenced := true, dru.angle := 100 },
   Or.inr ⟨_, rfl⟩, by decide⟩,
   ⟨{ inStage .drying with record := dryPhase }, { dryRun .ending with suspended := true },
   { inHold { inStage .drying with record := dryPhase } with
     dyc.run := some { dryRun .ending with suspended := true }, dru.opener := .unknownPosition, dru.endRetracted := false,
     dru.doorClosed := false, dru.referenced := true, dru.angle := 100 },
   Or.inl rfl, by decide⟩,
   ⟨{ inStage .drying with record := dryPhase }, { dryRun .closedDry with suspended := true },
   { inHold { inStage .drying with record := dryPhase } with
     dyc.run := some { dryRun .closedDry with suspended := true }, dru.doorClosed := false, dru.angle := 500 },
   by decide⟩,
   ⟨{ dryRun .ended with outstanding := some ⟨.extend, true⟩ },
   { moving .extending .driving .dry with dyc.run := some { dryRun .ended with outstanding := some ⟨.extend, true⟩ } },
   by decide⟩,
   ⟨{ dryRun .ended with outstanding := some ⟨.extend, true⟩ },
   { moving .extending .driving .dry with
     dyc.run := some { dryRun .ended with outstanding := some ⟨.extend, true⟩ }, dru.moveMs := 6000 },
   by decide⟩⟩

theorem test_coolingOpensTheDoor_premises :
    (∃ (s : State), s.dyc.run = none) ∧
    (∃ (r : DryRun) (s : State), s.dyc.run = some r ∧ r.suspended = false ∧ r.state = .closedDry) ∧
    (∃ (s : State), (∀ r, s.dyc.run = some r → r.suspended = true ∨ r.state ≠ .cooling ∨ r.stateMs < 1200000)) ∧
    (∃ (temp : Int) (r : DryRun) (s : State),
      s.dyc.run = some r ∧ r.suspended = false ∧ r.state = .cooling ∧
      (r.stateMs < r.settings.openDelay * 1000 ∨ (r.settings.openTemp : Int) < temp ∨ temp < 0 ∨ 990 < temp)) ∧
    (∃ (cmd : Instr) (r : DryRun) (s : State),
      (cmd = .coolingLimitExpiry ∧ 1200000 ≤ r.stateMs ∨ ∃ temp hum, cmd = .cabinetSample temp hum ∧
        r.settings.openDelay * 1000 ≤ r.stateMs ∧ 0 ≤ temp ∧ temp ≤ 990 ∧ temp ≤ (r.settings.openTemp : Int)) ∧
      (∀ a, s.wsc.active = some a → a.stage.isWet = false) ∧ s.dyc.run = some r ∧ r.suspended = false ∧ r.state = .cooling ∧
      s.dru.opener = .retracted ∧ s.dru.latched = true ∧ s.cdu.mode ≠ .safe ∧ s.hcu.heat = none ∧ s.hcu.energised = false ∧
      s.hcu.demand = none ∧ s.hcu.pumpRuns = false) ∧
    (∃ (cmd : Instr) (r : DryRun) (s : State),
      (cmd = .coolingLimitExpiry ∧ 1200000 ≤ r.stateMs ∨ ∃ temp hum, cmd = .cabinetSample temp hum ∧
        r.settings.openDelay * 1000 ≤ r.stateMs ∧ 0 ≤ temp ∧ temp ≤ 990 ∧ temp ≤ (r.settings.openTemp : Int)) ∧
      (∀ a, s.wsc.active = some a → a.stage.isWet = false) ∧ s.dyc.run = some r ∧ r.suspended = false ∧ r.state = .cooling ∧
      s.dru.opener = .retracted ∧ s.dru.latched = true ∧ s.cdu.mode ≠ .safe ∧ s.hcu.heat = none ∧ s.hcu.energised = false ∧
      s.hcu.demand = none ∧ s.hcu.pumpRuns = false) :=
  ⟨⟨atRest, by decide⟩,
   ⟨dryRun .closedDry, drying (dryRun .closedDry), by decide⟩,
   ⟨drying { dryRun .cooling with stateMs := 1199999 }, by rintro _ ⟨⟩; decide⟩,
   ⟨551, dryRun .cooling, drying (dryRun .cooling), by decide⟩,
   ⟨.cabinetSample 550 50, { dryRun .cooling with stateMs := 120000 }, drying { dryRun .cooling with stateMs := 120000 },
   Or.inr ⟨550, 50, rfl, by decide, by decide, by decide, by decide⟩, by rintro _ ⟨⟩, by decide⟩,
   ⟨.coolingLimitExpiry, { dryRun .cooling with stateMs := 1200000 }, drying { dryRun .cooling with stateMs := 1200000 },
   Or.inl (by decide), by rintro _ ⟨⟩, by decide⟩⟩

theorem test_dryingEnds_premises :
    (∃ (s : State),
      (∀ r, s.dyc.run = some r → r.suspended = true ∨ r.state ≠ .ajar ∧ r.state ≠ .yielding ∧ r.state ≠ .closedDry ∨
        r.dryMs < r.dryTime * 1000)) ∧
    (∃ (s : State),
      (∀ r, s.dyc.run = some r → r.suspended = true ∨ r.state ≠ .ajar ∧ r.state ≠ .yielding ∧ r.state ≠ .closedDry ∨
        r.dryMs < r.dryTime * 1000)) ∧
    (∃ (s : State),
      (∀ r, s.dyc.run = some r → r.suspended = true ∨ r.state ≠ .ajar ∧ r.state ≠ .yielding ∨ r.dryMs < 600000 ∨ r.humLow < 60)) ∧
    (∃ (s : State),
      (∀ r, s.dyc.run = some r → r.suspended = true ∨ r.state ≠ .ajar ∧ r.state ≠ .yielding ∨ r.dryMs < 600000 ∨ r.humLow < 60)) ∧
    (∃ (r : DryRun) (o : DryOutcome) (s : State),
      s.dyc.run = some r ∧ r.suspended = false ∧ r.state = .closedDry ∧ r.dryTime * 1000 ≤ r.dryMs ∧ s.wsc.queue = [] ∧
      o = (if r.degraded = true then .degraded else .done) ∧ s.wsc.wash ≠ .running) ∧
    (∃ (r : DryRun) (o : DryOutcome) (s : State) (a : _) (x : _),
      s.dyc.run = some r ∧ r.suspended = false ∧ r.state = .closedDry ∧ r.dryTime * 1000 ≤ r.dryMs ∧ s.wsc.queue = [] ∧
      o = (if r.degraded = true then .degraded else .done) ∧ s.wsc.wash = .running ∧ s.wsc.active = some a ∧
      a.stage = .drying ∧ s.wsc.ctx = some x ∧ s.cdu.mode = .run) ∧
    (∃ (cmd : Instr) (r : DryRun) (s : State),
      s.dyc.run = some r ∧ r.suspended = false ∧ r.state = .ajar ∧
      (cmd = .dryTimeReached ∧ r.dryTime * 1000 ≤ r.dryMs ∨ cmd = .minDryTimeReached ∧ 600000 ≤ r.dryMs ∧ 60 ≤ r.humLow) ∧
      s.dru.opener = .extended ∧ s.dru.endRetracted = false ∧ s.cdu.mode ≠ .safe) ∧
    (∃ (s : State),
      (∀ r, s.dyc.run = some r → r.suspended = true ∨ r.state = .ended ∨ r.outstanding = none ∨
        (∃ c, r.outstanding = some ⟨c, true⟩))) ∧
    (∃ (r : DryRun) (s : State),
      s.dyc.run = some r ∧ r.suspended = false ∧ r.state = .ending ∧ r.outstanding = some ⟨.retract, false⟩ ∧
      (s.dru.opener = .extending ∨ s.dru.opener = .retracting)) ∧
    (∃ (r : DryRun) (s : State),
      s.dyc.run = some r ∧ r.suspended = false ∧ r.state = .ending ∧ r.outstanding = some ⟨.retract, false⟩ ∧
      (s.dru.opener = .extended ∨ s.dru.opener = .fault ∨ s.dru.opener = .unknownPosition) ∧ s.dru.endRetracted = false ∧
      s.cdu.mode ≠ .safe) ∧
    (∃ (r : DryRun) (a : ActivePhase) (p : PhaseRecord) (rest : List PhaseRecord) (s : State),
      s.dyc.run = some r ∧ r.suspended = false ∧ r.state = .closedDry ∧ r.dryTime * 1000 ≤ r.dryMs ∧ s.wsc.queue = p :: rest ∧
      p.kind = .drain ∧ s.wsc.wash = .running ∧ s.wsc.active = some a ∧ a.stage = .drying ∧ s.cdu.mode = .run ∧
      s.doorClass = .closed ∧ s.dru.latched = true ∧ s.sfu.run = none) ∧
    (∃ (cmd : Instr) (r : DryRun) (s : State),
      s.dyc.run = some r ∧ r.suspended = false ∧ r.state = .ajar ∧
      (cmd = .dryTimeReached ∧ r.dryTime * 1000 ≤ r.dryMs ∨ cmd = .minDryTimeReached ∧ 600000 ≤ r.dryMs ∧ 60 ≤ r.humLow) ∧
      s.dru.opener = .extended ∧ s.dru.endRetracted = false ∧ s.cdu.mode ≠ .safe) :=
  ⟨⟨drying (dryRun .cooling), by rintro _ ⟨⟩; decide⟩,
   ⟨drying { dryRun .closedDry with dryMs := 1799999 }, by rintro _ ⟨⟩; decide⟩,
   ⟨drying { dryRun .ajar with dryMs := 600000, humLow := 59 }, by rintro _ ⟨⟩; decide⟩,
   ⟨drying { dryRun .yielding with dryMs := 599999, humLow := 60 }, by rintro _ ⟨⟩; decide⟩,
   ⟨{ dryRun .closedDry with dryMs := 1800000 }, .done, drying { dryRun .closedDry with dryMs := 1800000 }, by decide⟩,
   ⟨{ dryRun .closedDry with dryMs := 1800000, degraded := true }, .degraded,
   { inRun (inStage .drying) with dyc.run := some { dryRun .closedDry with dryMs := 1800000, degraded := true } },
   inStage .drying, ⟨none, false, 0⟩, by decide⟩,
   ⟨.minDryTimeReached, { dryRun .ajar with dryMs := 600000, humLow := 60 },
   { drying { dryRun .ajar with dryMs := 600000, humLow := 60 } with dru.opener := .extended, dru.endRetracted := false },
   by decide⟩,
   ⟨drying { dryRun .ending with outstanding := some ⟨.retract, true⟩ },
   by rintro _ ⟨⟩; exact Or.inr (Or.inr (Or.inr ⟨_, rfl⟩))⟩,
   ⟨{ dryRun .ending with outstanding := some ⟨.retract, false⟩ },
   { drying { dryRun .ending with outstanding := some ⟨.retract, false⟩ } with dru.opener := .extending }, by decide⟩,
   ⟨{ dryRun .ending with outstanding := some ⟨.retract, false⟩ },
   { drying { dryRun .ending with outstanding := some ⟨.retract, false⟩ } with dru.opener := .fault, dru.endRetracted := false },
   by decide⟩,
   ⟨{ dryRun .closedDry with dryMs := 1800000 }, inStage .drying, drainPhase, [],
   { inRun (inStage .drying) with dyc.run := some { dryRun .closedDry with dryMs := 1800000 }, wsc.queue := [drainPhase] },
   by decide⟩,
   ⟨.dryTimeReached, { dryRun .ajar with dryMs := 1800000 },
   { drying { dryRun .ajar with dryMs := 1800000 } with dru.opener := .extended, dru.endRetracted := false }, by decide⟩⟩

theorem test_serviceTestsRunOut_premises :
    (∃ (a : Actuator) (s : State),
      (s.testing a = false ∨ a.agent ≠ none ∨ a = .diverter ∨ a = .opener ∨ a = .inlet ∧ s.wpu.grant ≠ some .test ∨
        (s.testEntry a).progressMs < (s.testEntry a).amount * 1000)) ∧
    (∃ (a : Actuator) (s : State),
      (s.testing a = false ∨ a.agent ≠ none ∨ a = .diverter ∨ a = .opener ∨ a = .inlet ∧ s.wpu.grant ≠ some .test ∨
        (s.testEntry a).progressMs < (s.testEntry a).amount * 1000)) ∧
    (∃ (a : Actuator) (s : State),
      (s.testing a = false ∨ a.agent ≠ none ∨ a = .diverter ∨ a = .opener ∨ a = .inlet ∧ s.wpu.grant ≠ some .test ∨
        (s.testEntry a).progressMs < (s.testEntry a).amount * 1000) ∧
      s.testing a = true) ∧
    (∃ (a : Actuator) (s : State) (b : Actuator),
      s.testing a = true ∧
      (a = .drainPump ∨ a = .circPump ∨ a = .heater ∨ a = .fan ∨ a = .inlet ∧ s.wpu.grant = some .test ∧ s.wpu.waitFill = none) ∧
      (s.testEntry a).amount * 1000 ≤ (s.testEntry a).progressMs ∧ b ≠ a ∧ (a ≠ .circPump ∨ b ≠ .heater) ∧ a = .drainPump) ∧
    (∃ (a : Actuator) (s : State),
      s.testing a = true ∧
      (a = .drainPump ∨ a = .circPump ∨ a = .heater ∨ a = .fan ∨ a = .inlet ∧ s.wpu.grant = some .test ∧ s.wpu.waitFill = none) ∧
      (s.testEntry a).amount * 1000 ≤ (s.testEntry a).progressMs ∧ a = .fan) ∧
    (∃ (a : Actuator) (s : State),
      s.testing a = true ∧
      (a = .drainPump ∨ a = .circPump ∨ a = .heater ∨ a = .fan ∨ a = .inlet ∧ s.wpu.grant = some .test ∧ s.wpu.waitFill = none) ∧
      (s.testEntry a).amount * 1000 ≤ (s.testEntry a).progressMs ∧ a = .heater) ∧
    (∃ (a : Actuator) (s : State),
      s.testing a = true ∧
      (a = .drainPump ∨ a = .circPump ∨ a = .heater ∨ a = .fan ∨ a = .inlet ∧ s.wpu.grant = some .test ∧ s.wpu.waitFill = none) ∧
      (s.testEntry a).amount * 1000 ≤ (s.testEntry a).progressMs ∧ a = .circPump ∧ s.hcu.demand = none ∧
      s.testing .heater = true) ∧
    (∃ (a : Actuator) (s : State),
      s.testing a = true ∧
      (a = .drainPump ∨ a = .circPump ∨ a = .heater ∨ a = .fan ∨ a = .inlet ∧ s.wpu.grant = some .test ∧ s.wpu.waitFill = none) ∧
      (s.testEntry a).amount * 1000 ≤ (s.testEntry a).progressMs ∧ a = .inlet ∧ s.wpu.waitRegen = none ∧ s.wpu.waitTest = none) ∧
    (∃ (s : State), (s.wpu.waterPresent = true ∨ s.cdu.dryWaterMs < 2000)) ∧
    (∃ (s : State), (s.wpu.waterPresent = true ∨ s.cdu.dryWaterMs < 2000)) ∧
    (∃ (s : State) (a : _),
      s.wpu.waterPresent = false ∧ 2000 ≤ s.cdu.dryWaterMs ∧ (a = .circPump ∨ a = .heater) ∧ s.testing a = true ∧
      s.testing .circPump = true ∧ s.hcu.demand = none ∧ s.testing .heater = true) ∧
    (∃ (s : State) (a : _),
      s.wpu.waterPresent = false ∧ 2000 ≤ s.cdu.dryWaterMs ∧ (s.testing a = false ∨ a ≠ .circPump ∧ a ≠ .heater)) :=
  ⟨⟨.rinsePump, testing [.rinsePump], by decide⟩,
   ⟨.fan, testing [], by decide⟩,
   ⟨.fan, { testing [] with cdu.tests := (testing [.fan]).cdu.tests.set 8 ⟨true, 10, 9999, 0, 0, none, none, none, none⟩ },
   by decide⟩,
   ⟨.drainPump, ranOut [.drainPump, .fan], .fan, by decide⟩,
   ⟨.fan, ranOut [.fan], by decide⟩,
   ⟨.heater, ranOut [.circPump, .heater], by decide⟩,
   ⟨.circPump, ranOut [.circPump, .heater], by decide⟩,
   ⟨.inlet, { ranOut [.inlet] with wpu.grant := some .test }, by decide⟩,
   ⟨testing [], by decide⟩,
   ⟨{ testing [] with wpu.waterPresent := false, cdu.dryWaterMs := 1999 }, by decide⟩,
   ⟨{ testing [.circPump, .heater] with wpu.waterPresent := false, cdu.dryWaterMs := 2000 }, .heater, by decide⟩,
   ⟨{ testing [.fan] with wpu.waterPresent := false, cdu.dryWaterMs := 2000 }, .fan, by decide⟩⟩

theorem test_everyStepKeepsTheAccountAndTheInlet_premises : ∃ (s : State) (t : State),
    step s = .next t ∧ s.accountBalances ∧ s.inletGuarded :=
  ⟨{ filling (fillOf 3 0) bypassing with pending := [.flowPulse false false], wpu.total := 3, wpu.fillTotal := 3 }, _, rfl,
  by decide⟩

theorem test_everyStepKeepsTablesAndBuffers_premises : ∃ (s : State) (t : State),
    step s = .next t ∧ s.linkOrdered ∧ s.tablesBounded :=
  ⟨attended, _, rfl, by and_intros <;> first | decide | (rintro _ ⟨⟩; decide), by decide⟩

theorem test_everyStepKeepsColumnsAndSupplies_premises : ∃ (s : State) (t : State),
    step s = .next t ∧ s.columnsKept ∧ s.suppliesKept :=
  ⟨{ blendFill 5 with pending := [.flowPulse false false] }, _, rfl, by decide⟩

theorem test_everyStepKeepsHingeAndOpener_premises : ∃ (s : State) (t : State),
    step s = .next t ∧ s.hingeKept ∧ s.openerGuarded :=
  ⟨{ moving .extending .driving .host with pending := [.endSwitchChange .extended true], dru.motor := some .extend }, _, rfl,
  by decide⟩

theorem test_everyStepKeepsModeAndPump_premises : ∃ (s : State) (t : State),
    step s = .next t ∧ s.modeAgrees ∧ s.pumpGuarded :=
  ⟨{ washing .heat with pending := [.pause] }, _, rfl, by decide⟩

end Sys2Proof.Tests
end

/-! The loading of the dose tables (R95, R96): O14. -/

namespace Sys2Proof.Machine

/-! ## The tests of a table's figures -/

/-- Each figure is below its neighbour, so by transitivity below all that follow. -/
theorem rising_iff (l : List Nat) : rising l = true ↔ l.Pairwise (· < ·) := by
  induction l with
  | nil => exact ⟨fun _ => List.Pairwise.nil, fun _ => rfl⟩
  | cons x l ih =>
    cases l with
    | nil => exact ⟨fun _ => List.pairwise_singleton _ x, fun _ => rfl⟩
    | cons y rest =>
      rw [rising, Bool.and_eq_true, decide_eq_true_eq, ih, List.pairwise_cons (a := x)]
      refine and_congr_left fun hrest => ⟨fun hxy => List.forall_mem_cons.mpr ⟨hxy, fun z hz => ?_⟩,
        fun hall => hall y List.mem_cons_self⟩
      exact Nat.lt_trans hxy (List.rel_of_pairwise_cons hrest hz)

theorem pointsOk_iff (ps : List (Nat × Nat)) :
    pointsOk ps = true ↔ (∀ p ∈ ps, p.1 ≤ 700 ∧ 64 ≤ p.2 ∧ p.2 ≤ 1024) ∧ ps.Pairwise (fun p q => p.1 < q.1) := by
  simp only [pointsOk, Bool.and_eq_true, List.all_eq_true, decide_eq_true_eq, rising_iff, List.pairwise_map]

/-- The thresholds rise, so the last bounds them all. -/
theorem soilOk_iff (t1 t2 t3 : Nat) (factors : List Nat) :
    soilOk [t1, t2, t3] factors = true ↔ t1 < t2 ∧ t2 < t3 ∧ t3 ≤ 1023 ∧ ∀ f ∈ factors, 128 ≤ f ∧ f ≤ 1024 := by
  have thresholds : (∀ t ∈ [t1, t2, t3], t ≤ 1023) ∧ [t1, t2, t3].Pairwise (· < ·) ↔ t1 < t2 ∧ t2 < t3 ∧ t3 ≤ 1023 := by
    simp only [List.forall_mem_cons, List.pairwise_cons, List.Pairwise.nil, List.not_mem_nil, false_implies, implies_true,
      and_true]
    omega
  simp only [soilOk, Bool.and_eq_true, List.all_eq_true, decide_eq_true_eq, rising_iff, thresholds, and_assoc]

theorem exists_curveOf {ps : List (Nat × Nat)} (h : ps.length = 6) : ∃ c, curveOf ps = some c ∧ c.points.toList = ps := by
  match ps, h with
  | [_, _, _, _, _, _], _ => exact ⟨_, rfl, rfl⟩

theorem length_of_curveOf {ps : List (Nat × Nat)} {c : Curve} (h : curveOf ps = some c) : ps.length = 6 := by
  unfold curveOf at h
  split at h
  · rfl
  · cases h

theorem lengths_of_soilOf {ts fs : List Nat} {t : SoilTable} (h : soilOf ts fs = some t) : ts.length = 3 ∧ fs.length = 4 := by
  unfold soilOf at h
  split at h
  · exact ⟨rfl, rfl⟩
  · cases h

theorem dosesExist_iff (s : State) : s.dosesExist = true ↔ s.dsu.live ≠ [] ∨ s.dsu.ended ≠ [] := by
  simp [State.dosesExist, Decidable.imp_iff_not_or]

theorem dosesExist_eq_false_iff (s : State) : s.dosesExist = false ↔ s.dsu.live = [] ∧ s.dsu.ended = [] := by
  simp [State.dosesExist]

/-! ## What the two requests answer -/

section
variable {ps : List (Nat × Nat)} {c : Curve} {ts fs : List Nat} {t : SoilTable} {s : State}

/-- Figures that are no curve or that a test fails. -/
theorem loadCurveRequest_field (h : ∀ c, curveOf ps = some c → pointsOk ps = false) :
    loadCurveRequest ps s = (s, .refused .field) := by
  unfold loadCurveRequest
  cases hc : curveOf ps with
  | none => rfl
  | some c => simp [h c hc]

theorem loadCurveRequest_state (hc : curveOf ps = some c) (hok : pointsOk ps = true) (hd : s.dosesExist = true) :
    loadCurveRequest ps s = (s, .refused .state) := by
  simp [loadCurveRequest, hc, hok, hd]

theorem loadCurveRequest_taken (hc : curveOf ps = some c) (hok : pointsOk ps = true) (hd : s.dosesExist = false) :
    loadCurveRequest ps s = ({ s with dsu := { s.dsu with curve := c } }, .ok (.curve c)) := by
  simp [loadCurveRequest, hc, hok, hd]

/-- Figures that are no soil table or that a test fails. -/
theorem loadSoilRequest_field (h : ∀ t, soilOf ts fs = some t → soilOk ts fs = false) :
    loadSoilRequest ts fs s = (s, .refused .field) := by
  unfold loadSoilRequest
  cases ht : soilOf ts fs with
  | none => rfl
  | some t => simp [h t ht]

theorem loadSoilRequest_state (ht : soilOf ts fs = some t) (hok : soilOk ts fs = true) (hd : s.dosesExist = true) :
    loadSoilRequest ts fs s = (s, .refused .state) := by
  simp [loadSoilRequest, ht, hok, hd]

theorem loadSoilRequest_taken (ht : soilOf ts fs = some t) (hok : soilOk ts fs = true) (hd : s.dosesExist = false) :
    loadSoilRequest ts fs s = ({ s with dsu := { s.dsu with soil := t } }, .ok (.soil t)) := by
  simp [loadSoilRequest, ht, hok, hd]

end

/-! ## The two commands -/

/-- A request that its owner answers with a new Dosing Unit and nothing else. -/
theorem serveRow_dsu (kind : Byte) (h : State → State × Answer) (s : State) (d : Dosing) (a : Answer)
    (he : h (superviseFrame s) = ({ superviseFrame s with dsu := d }, a)) :
    serveRow kind h s = { s.onlyAnswered kind a with dsu := d } := by
  simp only [serveRow, serve, he]
  rfl

theorem exec_loadCurve_eq (ps : List (Nat × Nat)) (s : State) :
    exec (.loadCurve ps) s = .next (serveRow 0x14 (loadCurveRequest ps) s) := rfl

theorem exec_loadSoil_eq (ts fs : List Nat) (s : State) :
    exec (.loadSoil ts fs) s = .next (serveRow 0x15 (loadSoilRequest ts fs) s) := rfl

/-- Settles O14: each clause is one answer of the request, its tests said in the words of the statement. -/
theorem doseTablesAreLoaded : Obligations.DoseTablesAreLoaded := by
  unfold Obligations.DoseTablesAreLoaded
  refine ⟨fun ps s => ⟨?_, fun hbad => ?_⟩, fun t1 t2 t3 f0 f1 f2 f3 s => ⟨fun hfits => ?_, fun hbad => ?_⟩,
    fun ts fs s hlen => ?_⟩
  · rintro ⟨hlen, hfits⟩
    obtain ⟨c, hc, hps⟩ := exists_curveOf hlen
    have hok := (pointsOk_iff ps).mpr hfits
    refine ⟨fun hd => ⟨c, hps, ?_⟩, fun hd => ?_⟩
    · rw [exec_loadCurve_eq, serveRow_dsu _ _ _ _ _
        (loadCurveRequest_taken hc hok ((dosesExist_eq_false_iff s).mpr hd))]
      rfl
    · rw [exec_loadCurve_eq, serveRow_answer _ _ _ _ (loadCurveRequest_state hc hok ((dosesExist_iff s).mpr hd))]
  · have hfield : ∀ c, curveOf ps = some c → pointsOk ps = false := fun c hc =>
      Bool.eq_false_iff.mpr fun hok => hbad ⟨length_of_curveOf hc, (pointsOk_iff ps).mp hok⟩
    rw [exec_loadCurve_eq, serveRow_answer _ _ _ _ (loadCurveRequest_field hfield)]
  · have hok := (soilOk_iff t1 t2 t3 [f0, f1, f2, f3]).mpr hfits
    refine ⟨fun hd => ?_, fun hd => ?_⟩
    · rw [exec_loadSoil_eq, serveRow_dsu _ _ _ _ _
        (loadSoilRequest_taken rfl hok ((dosesExist_eq_false_iff s).mpr hd))]
      rfl
    · rw [exec_loadSoil_eq, serveRow_answer _ _ _ _ (loadSoilRequest_state rfl hok ((dosesExist_iff s).mpr hd))]
  · have hfield := Bool.eq_false_iff.mpr fun hok => hbad ((soilOk_iff t1 t2 t3 [f0, f1, f2, f3]).mp hok)
    rw [exec_loadSoil_eq, serveRow_answer _ _ _ _ (loadSoilRequest_field fun _ _ => hfield)]
  · have hnone : ∀ t, soilOf ts fs = some t → soilOk ts fs = false := by
      intro t ht
      obtain ⟨hts, hfs⟩ := lengths_of_soilOf ht
      omega
    rw [exec_loadSoil_eq, serveRow_answer _ _ _ _ (loadSoilRequest_field hnone)]

end Sys2Proof.Machine

/-! The phase queue (R101 to R103, R201): O16. -/

namespace Sys2Proof.Machine

/-! ## The check of a raw record (R101, R201) -/

/-- What R101 checks of one kind beyond the checks of every kind. -/
def RawPhase.kindOk (r : RawPhase) : PhaseKind → Bool
  | .pre | .main | .rinse | .final => r.waterOk
  | .dry => r.dryOrDrainOk && optIn 300 5400 (r.opt 4 r.dryOverride)
  | .drain => r.dryOrDrainOk && !r.flags.testBit 3 && !r.has 4

/-- The record that a raw one of a kind spells, checked or not. -/
def RawPhase.record (r : RawPhase) (k : PhaseKind) : PhaseRecord where
  id := r.id
  kind := k
  fill := r.fill
  temp := r.temp
  hold := r.hold
  heatLimit := r.opt 0 r.heatLimit
  mask := r.mask
  period := r.period
  speed := r.speed
  detergent := r.opt 1 r.detergent
  additive := r.opt 2 r.additive
  rinse := r.opt 3 r.rinse
  soilSense := r.flags.testBit 0
  drainAtEnd := r.flags.testBit 1
  softRequired := r.flags.testBit 2
  openDoor := r.flags.testBit 3
  dryOverride := r.opt 4 r.dryOverride

theorem phaseKind_ofCode_eq_some_iff {n : Nat} {k : PhaseKind} : PhaseKind.ofCode n = some k ↔ n = k.code.toNat := by
  constructor
  · intro h
    unfold PhaseKind.ofCode at h
    split at h <;> cases h <;> rfl
  · rintro rfl
    cases k <;> rfl

theorem exists_phaseKind_code {n : Nat} (h : n ≤ 5) : ∃ k : PhaseKind, n = k.code.toNat := by
  have := (by decide : ∀ m : Fin 6, ∃ k ∈ [PhaseKind.pre, .main, .rinse, .final, .dry, .drain], m.val = k.code.toNat)
    ⟨n, by omega⟩
  obtain ⟨k, -, hk⟩ := this
  exact ⟨k, hk⟩

theorem check_eq_of_kind {r : RawPhase} {k : PhaseKind} (h : r.kind = k.code.toNat) :
    r.check = if r.commonOk && r.kindOk k then some (r.record k) else none := by
  unfold RawPhase.check
  rw [phaseKind_ofCode_eq_some_iff.mpr h]
  cases k <;> rfl

theorem check_eq_some_iff {r : RawPhase} {p : PhaseRecord} :
    r.check = some p ↔ ∃ k : PhaseKind, r.kind = k.code.toNat ∧ r.commonOk = true ∧ r.kindOk k = true ∧ r.record k = p := by
  constructor
  · intro h
    cases hk : PhaseKind.ofCode r.kind with
    | none => simp [RawPhase.check, hk] at h
    | some k =>
      have hcode := phaseKind_ofCode_eq_some_iff.mp hk
      rw [check_eq_of_kind hcode] at h
      obtain ⟨hboth, hp⟩ := Option.ite_none_right_eq_some.mp h
      obtain ⟨hcommon, hkind⟩ := (Bool.and_eq_true _ _).mp hboth
      exact ⟨k, hcode, hcommon, hkind, Option.some.inj hp⟩
  · rintro ⟨k, hcode, hcommon, hkind, rfl⟩
    simp [check_eq_of_kind hcode, hcommon, hkind]

/-! ## The check in the words of R101 and R201 -/

theorem commonOk_iff (r : RawPhase) :
    r.commonOk = true ↔ (1 ≤ r.id ∧ r.id ≤ 255) ∧ (1 ≤ r.mask ∧ r.mask ≤ 7) ∧ (5 ≤ r.period ∧ r.period ≤ 120) ∧
      (1 ≤ r.speed ∧ r.speed ≤ 3) ∧ r.flags < 16 ∧ r.presence < 32 := by
  simp only [RawPhase.commonOk, Bool.and_eq_true, decide_eq_true_eq, and_assoc]

theorem optIn_opt_iff (r : RawPhase) (lo hi n v : Nat) :
    optIn lo hi (r.opt n v) = true ↔ (r.presence.testBit n = true → lo ≤ v ∧ v ≤ hi) := by
  cases h : r.presence.testBit n <;> simp [RawPhase.opt, RawPhase.has, optIn, h]

theorem waterOk_iff (r : RawPhase) :
    r.waterOk = true ↔ (1500 ≤ r.fill ∧ r.fill ≤ 7000) ∧ (r.temp = 0 ∨ 300 ≤ r.temp ∧ r.temp ≤ 750) ∧ r.hold ≤ 3600 ∧
      (r.presence.testBit 0 → 300 ≤ r.heatLimit ∧ r.heatLimit ≤ 3600) ∧ (r.presence.testBit 1 → r.detergent ≤ 600) ∧
      (r.presence.testBit 2 → r.additive ≤ 200) ∧ (r.presence.testBit 3 → r.rinse ≤ 100) ∧
      r.flags.testBit 3 = false ∧ r.presence.testBit 4 = false := by
  simp only [RawPhase.waterOk, RawPhase.has, Bool.and_eq_true, Bool.or_eq_true, decide_eq_true_eq, optIn_opt_iff,
    Bool.not_eq_true', Nat.zero_le, true_and, and_assoc]

theorem dryOrDrainOk_iff (r : RawPhase) :
    r.dryOrDrainOk = true ↔ r.fill = 0 ∧ r.temp = 0 ∧ r.hold = 0 ∧ r.presence.testBit 0 = false ∧
      r.presence.testBit 1 = false ∧ r.presence.testBit 2 = false ∧ r.presence.testBit 3 = false ∧
      r.flags.testBit 0 = false := by
  simp only [RawPhase.dryOrDrainOk, RawPhase.has, Bool.and_eq_true, decide_eq_true_eq, Bool.not_eq_true', and_assoc]

/-- For a raw record whose code names a kind, R101's checks are the common ones and those of the kind. -/
theorem allowed_iff_of_kind {r : RawPhase} {k : PhaseKind} (h : r.kind = k.code.toNat) :
    r.allowed ↔ r.commonOk = true ∧ r.kindOk k = true := by
  rw [RawPhase.allowed, commonOk_iff]
  cases k with
  | pre | main | rinse | final =>
    simp [h, PhaseKind.code, RawPhase.kindOk, waterOk_iff, and_assoc]
  | dry =>
    simp [h, PhaseKind.code, RawPhase.kindOk, dryOrDrainOk_iff, optIn_opt_iff, and_assoc]
  | drain =>
    simp [h, PhaseKind.code, RawPhase.kindOk, RawPhase.has, dryOrDrainOk_iff, and_assoc]

theorem exists_check_of_allowed {r : RawPhase} (h : r.allowed) :
    ∃ k : PhaseKind, r.kind = k.code.toNat ∧ r.check = some (r.record k) := by
  obtain ⟨k, hk⟩ := exists_phaseKind_code h.2.1
  obtain ⟨hcommon, hkind⟩ := (allowed_iff_of_kind hk).mp h
  exact ⟨k, hk, check_eq_some_iff.mpr ⟨k, hk, hcommon, hkind, rfl⟩⟩

theorem check_eq_none_of_not_allowed {r : RawPhase} (h : ¬r.allowed) : r.check = none := by
  refine Option.eq_none_iff_forall_ne_some.mpr fun p hp => ?_
  obtain ⟨k, hk, hcommon, hkind, -⟩ := check_eq_some_iff.mp hp
  exact h ((allowed_iff_of_kind hk).mpr ⟨hcommon, hkind⟩)

/-! ## The raw record that a record's bytes spell (R201) -/

/-- The flag byte of a record. -/
def PhaseRecord.flagByte (p : PhaseRecord) : Byte :=
  bit 0 p.soilSense ||| bit 1 p.drainAtEnd ||| bit 2 p.softRequired ||| bit 3 p.openDoor

/-- The presence byte of a record. -/
def PhaseRecord.presenceByte (p : PhaseRecord) : Byte :=
  bit 0 p.heatLimit.isSome ||| bit 1 p.detergent.isSome ||| bit 2 p.additive.isSome ||| bit 3 p.rinse.isSome |||
    bit 4 p.dryOverride.isSome

/-- The figure that an optional field's two bytes spell; of an absent field it is free (log 18). -/
def PhaseRecord.optFigure (p : PhaseRecord) (n : Nat) (o : Option Nat) : Nat := o.getD (Config.absentField p n).toNat

/-- The raw record that a record's bytes spell. -/
def PhaseRecord.raw (p : PhaseRecord) : RawPhase where
  id := p.id
  kind := p.kind.code.toNat
  fill := p.fill
  temp := p.temp
  hold := p.hold
  heatLimit := p.optFigure 0 p.heatLimit
  mask := p.mask
  period := p.period
  speed := p.speed
  detergent := p.optFigure 1 p.detergent
  additive := p.optFigure 2 p.additive
  rinse := p.optFigure 3 p.rinse
  flags := p.flagByte.toNat
  presence := p.presenceByte.toNat
  dryOverride := p.optFigure 4 p.dryOverride

theorem fourBits_testBit : ∀ a b c d : Bool,
    (bit 0 a ||| bit 1 b ||| bit 2 c ||| bit 3 d).toNat < 16 ∧
    (bit 0 a ||| bit 1 b ||| bit 2 c ||| bit 3 d).toNat.testBit 0 = a ∧
    (bit 0 a ||| bit 1 b ||| bit 2 c ||| bit 3 d).toNat.testBit 1 = b ∧
    (bit 0 a ||| bit 1 b ||| bit 2 c ||| bit 3 d).toNat.testBit 2 = c ∧
    (bit 0 a ||| bit 1 b ||| bit 2 c ||| bit 3 d).toNat.testBit 3 = d := by decide

theorem fiveBits_testBit : ∀ a b c d e : Bool,
    (bit 0 a ||| bit 1 b ||| bit 2 c ||| bit 3 d ||| bit 4 e).toNat < 32 ∧
    (bit 0 a ||| bit 1 b ||| bit 2 c ||| bit 3 d ||| bit 4 e).toNat.testBit 0 = a ∧
    (bit 0 a ||| bit 1 b ||| bit 2 c ||| bit 3 d ||| bit 4 e).toNat.testBit 1 = b ∧
    (bit 0 a ||| bit 1 b ||| bit 2 c ||| bit 3 d ||| bit 4 e).toNat.testBit 2 = c ∧
    (bit 0 a ||| bit 1 b ||| bit 2 c ||| bit 3 d ||| bit 4 e).toNat.testBit 3 = d ∧
    (bit 0 a ||| bit 1 b ||| bit 2 c ||| bit 3 d ||| bit 4 e).toNat.testBit 4 = e := by decide

theorem raw_flags (p : PhaseRecord) :
    p.raw.flags < 16 ∧ p.raw.flags.testBit 0 = p.soilSense ∧ p.raw.flags.testBit 1 = p.drainAtEnd ∧
    p.raw.flags.testBit 2 = p.softRequired ∧ p.raw.flags.testBit 3 = p.openDoor := fourBits_testBit ..

theorem raw_presence_lt (p : PhaseRecord) : p.raw.presence < 32 := (fiveBits_testBit ..).1

theorem raw_has (p : PhaseRecord) :
    p.raw.has 0 = p.heatLimit.isSome ∧ p.raw.has 1 = p.detergent.isSome ∧ p.raw.has 2 = p.additive.isSome ∧
    p.raw.has 3 = p.rinse.isSome ∧ p.raw.has 4 = p.dryOverride.isSome := (fiveBits_testBit ..).2

theorem opt_isSome (r : RawPhase) (n v : Nat) : (r.opt n v).isSome = r.has n := by
  cases h : r.has n <;> simp [RawPhase.opt, h]

/-- An optional field whose presence bit is right reads back as it was, whatever an absent one's bytes are. -/
theorem opt_optFigure {p : PhaseRecord} {n : Nat} {o : Option Nat} (h : p.raw.has n = o.isSome) :
    p.raw.opt n (p.optFigure n o) = o := by
  unfold RawPhase.opt
  rw [h]
  cases o <;> rfl

theorem raw_opt (p : PhaseRecord) :
    p.raw.opt 0 p.raw.heatLimit = p.heatLimit ∧ p.raw.opt 1 p.raw.detergent = p.detergent ∧
    p.raw.opt 2 p.raw.additive = p.additive ∧ p.raw.opt 3 p.raw.rinse = p.rinse ∧
    p.raw.opt 4 p.raw.dryOverride = p.dryOverride := by
  obtain ⟨h0, h1, h2, h3, h4⟩ := raw_has p
  exact ⟨opt_optFigure h0, opt_optFigure h1, opt_optFigure h2, opt_optFigure h3, opt_optFigure h4⟩

theorem raw_record (p : PhaseRecord) : p.raw.record p.kind = p := by
  simp only [RawPhase.record, raw_flags, raw_opt]
  rfl

theorem record_raw_commonOk {r : RawPhase} {k : PhaseKind} (h : r.commonOk = true) : (r.record k).raw.commonOk = true := by
  obtain ⟨hid, hmask, hperiod, hspeed, -, -⟩ := (commonOk_iff r).mp h
  exact (commonOk_iff _).mpr ⟨hid, hmask, hperiod, hspeed, (raw_flags _).1, raw_presence_lt _⟩

theorem record_raw_has (r : RawPhase) (k : PhaseKind) :
    (r.record k).raw.has 0 = r.has 0 ∧ (r.record k).raw.has 1 = r.has 1 ∧ (r.record k).raw.has 2 = r.has 2 ∧
    (r.record k).raw.has 3 = r.has 3 ∧ (r.record k).raw.has 4 = r.has 4 := by
  obtain ⟨h0, h1, h2, h3, h4⟩ := raw_has (r.record k)
  exact ⟨h0.trans (opt_isSome ..), h1.trans (opt_isSome ..), h2.trans (opt_isSome ..), h3.trans (opt_isSome ..),
    h4.trans (opt_isSome ..)⟩

/-- A kind's checks read the plain figures, the optional fields and the flags, which are those of the raw record it came from. -/
theorem record_raw_kindOk (r : RawPhase) (k : PhaseKind) : (r.record k).raw.kindOk k = r.kindOk k := by
  have hwater : (r.record k).raw.waterOk = r.waterOk := by
    simp only [RawPhase.waterOk, raw_flags, raw_opt, record_raw_has]
    rfl
  have hno : (r.record k).raw.dryOrDrainOk = r.dryOrDrainOk := by
    simp only [RawPhase.dryOrDrainOk, raw_flags, record_raw_has]
    rfl
  cases k with
  | pre | main | rinse | final => exact hwater
  | dry =>
    simp only [RawPhase.kindOk, hno, raw_opt]
    rfl
  | drain =>
    simp only [RawPhase.kindOk, hno, raw_flags, record_raw_has]
    rfl

theorem raw_check_of_check {r : RawPhase} {p : PhaseRecord} (h : r.check = some p) : p.raw.check = some p := by
  obtain ⟨k, -, hcommon, hkind, rfl⟩ := check_eq_some_iff.mp h
  exact check_eq_some_iff.mpr ⟨k, rfl, record_raw_commonOk hcommon, (record_raw_kindOk r k).trans hkind, raw_record _⟩

/-! ## A record's bytes, field by field (11.1, R201) -/

/-- Fields written one after the other are read back one by one. -/
theorem splitFields_flatten (fields : List (List Byte)) :
    splitFields (fields.map List.length) fields.flatten = fields.map beNat := by
  induction fields with
  | nil => rfl
  | cons f rest ih => simp [splitFields, ih]

theorem beNat_be1 {n : Nat} (h : n ≤ 255) : beNat (be1 n) = n := fieldAt_be1 [] h

theorem beNat_word16 (w : BitVec 16) : beNat (word16 w) = w.toNat := fieldAt_word16 [] w

theorem beNat_be2 {n : Nat} (h : n ≤ 65535) : beNat (be2 n) = n := fieldAt_be2 [] h

theorem beNat_byte (b : Byte) : beNat [b] = b.toNat := by simp [beNat]

theorem optBytes_length (p : PhaseRecord) (n : Nat) (o : Option Nat) : (p.optBytes n o).length = 2 := by cases o <;> rfl

theorem beNat_optBytes {p : PhaseRecord} {n : Nat} {o : Option Nat} (h : ∀ v, o = some v → v ≤ 65535) :
    beNat (p.optBytes n o) = p.optFigure n o := by
  cases o with
  | none => exact beNat_word16 _
  | some v => exact beNat_be2 (h v rfl)

/-- The fields of a record's bytes, each on its own. -/
def PhaseRecord.fieldBytes (p : PhaseRecord) : List (List Byte) :=
  [be1 p.id, [p.kind.code], be2 p.fill, be2 p.temp, be2 p.hold, p.optBytes 0 p.heatLimit, be1 p.mask, be1 p.period,
    be1 p.speed, p.optBytes 1 p.detergent, p.optBytes 2 p.additive, p.optBytes 3 p.rinse, [p.flagByte], [p.presenceByte],
    p.optBytes 4 p.dryOverride]

theorem bytes_eq_flatten (p : PhaseRecord) : p.bytes = p.fieldBytes.flatten := by
  simp [PhaseRecord.bytes, PhaseRecord.fieldBytes, PhaseRecord.flagByte, PhaseRecord.presenceByte]

theorem fieldBytes_lengths (p : PhaseRecord) :
    p.fieldBytes.map List.length = [1, 1, 2, 2, 2, 2, 1, 1, 1, 2, 2, 2, 1, 1, 2] := by
  simp [PhaseRecord.fieldBytes, optBytes_length, be1, be2, word16]

theorem bytes_length (p : PhaseRecord) : p.bytes.length = 23 := by
  rw [bytes_eq_flatten, List.length_flatten, fieldBytes_lengths]
  rfl

/-- A record's figures fit the bytes that R201 gives them. -/
structure PhaseRecord.FitsBytes (p : PhaseRecord) : Prop where
  id : p.id ≤ 255
  fill : p.fill ≤ 65535
  temp : p.temp ≤ 65535
  hold : p.hold ≤ 65535
  mask : p.mask ≤ 255
  period : p.period ≤ 255
  speed : p.speed ≤ 255
  heatLimit : ∀ v, p.heatLimit = some v → v ≤ 65535
  detergent : ∀ v, p.detergent = some v → v ≤ 65535
  additive : ∀ v, p.additive = some v → v ≤ 65535
  rinse : ∀ v, p.rinse = some v → v ≤ 65535
  dryOverride : ∀ v, p.dryOverride = some v → v ≤ 65535

/-- The figures of a raw record, in the order of the catalogue (11.5). -/
def RawPhase.figures (r : RawPhase) : List Nat :=
  [r.id, r.kind, r.fill, r.temp, r.hold, r.heatLimit, r.mask, r.period, r.speed, r.detergent, r.additive, r.rinse, r.flags,
    r.presence, r.dryOverride]

theorem fieldBytes_values {p : PhaseRecord} (h : p.FitsBytes) : p.fieldBytes.map beNat = p.raw.figures := by
  simp [PhaseRecord.fieldBytes, RawPhase.figures, PhaseRecord.raw, beNat_byte, beNat_be1 h.id, beNat_be2 h.fill,
    beNat_be2 h.temp, beNat_be2 h.hold, beNat_be1 h.mask, beNat_be1 h.period, beNat_be1 h.speed,
    beNat_optBytes h.heatLimit, beNat_optBytes h.detergent, beNat_optBytes h.additive, beNat_optBytes h.rinse,
    beNat_optBytes h.dryOverride]

/-- A payload of the catalogue's length, whose fields build a request. -/
theorem decodeRequest_of_fields {kind : Byte} {ws : List Nat} {payload : List Byte} {i : Instr}
    (hws : fieldWidths kind.toNat = some ws) (hlen : payload.length = ws.sum)
    (hi : buildRequest kind.toNat (splitFields ws payload) = some i) : decodeRequest kind payload = .request i := by
  simp only [decodeRequest, hws, hlen, hi, ne_eq, not_true_eq_false, if_false]

theorem decodeRequest_bytes {p : PhaseRecord} (h : p.FitsBytes) :
    decodeRequest 0x20 p.bytes = .request (.queuePhase p.raw) := by
  have hfields : splitFields [1, 1, 2, 2, 2, 2, 1, 1, 1, 2, 2, 2, 1, 1, 2] p.bytes = p.raw.figures := by
    rw [← fieldBytes_lengths p, bytes_eq_flatten, splitFields_flatten, fieldBytes_values h]
  refine decodeRequest_of_fields rfl (bytes_length p) ?_
  rw [hfields]
  rfl

theorem opt_eq_some_iff {r : RawPhase} {n value v : Nat} :
    r.opt n value = some v ↔ r.presence.testBit n = true ∧ value = v := by
  cases h : r.presence.testBit n <;> simp [RawPhase.opt, RawPhase.has, h]

/-- R101's ranges lie within the bytes, and a field outside its kinds is 0 or absent. -/
theorem fitsBytes_of_check {r : RawPhase} {p : PhaseRecord} (h : r.check = some p) : p.FitsBytes := by
  obtain ⟨k, hcode, hcommon, hkind, rfl⟩ := check_eq_some_iff.mp h
  obtain ⟨hid, hle, hmask, hperiod, hspeed, -, -, hwater, hno, hdry, hdrain⟩ :=
    (allowed_iff_of_kind hcode).mpr ⟨hcommon, hkind⟩
  constructor <;> simp only [RawPhase.record, opt_eq_some_iff] <;> grind

/-! ## QUEUE-PHASE (R102) -/

theorem idUsed_iff (s : State) (id : Nat) : s.idUsed id = true ↔ s.usesId id := by
  cases h : s.wsc.active <;> simp [State.idUsed, State.usesId, h]

/-- A request that its owner answers, whatever else its owner does. -/
theorem serveRow_eq (kind : Byte) (h : State → State × Answer) (s t : State) (a : Answer)
    (he : h (superviseFrame s) = (t, a)) : serveRow kind h s = { t with lkp := t.lkp.answered kind a } := by
  simp only [serveRow, serve, he]

section
variable {r : RawPhase} {p : PhaseRecord} {s : State}

theorem queuePhaseRequest_field (h : r.check = none) : queuePhaseRequest r s = (s, .refused .field) := by
  simp only [queuePhaseRequest, h]

theorem queuePhaseRequest_state (h : r.check = some p) (hmode : s.cdu.mode ≠ .standby ∧ s.cdu.mode ≠ .run) :
    queuePhaseRequest r s = (s, .refused .state) := by
  simp only [queuePhaseRequest, h, if_pos hmode]

/-- STANDBY and RUN are the modes that take a phase. -/
theorem accepting_mode (h : s.cdu.mode = .standby ∨ s.cdu.mode = .run) :
    ¬(s.cdu.mode ≠ .standby ∧ s.cdu.mode ≠ .run) := fun ⟨hstandby, hrun⟩ => h.elim hstandby hrun

theorem queuePhaseRequest_full (h : r.check = some p) (hmode : s.cdu.mode = .standby ∨ s.cdu.mode = .run)
    (hfull : 12 ≤ s.wsc.queue.length) : queuePhaseRequest r s = (s, .refused .full) := by
  simp only [queuePhaseRequest, h, if_neg (accepting_mode hmode), if_pos hfull]

theorem queuePhaseRequest_room (h : r.check = some p) (hmode : s.cdu.mode = .standby ∨ s.cdu.mode = .run)
    (hroom : s.wsc.queue.length < 12) :
    queuePhaseRequest r s =
      if s.idUsed p.id then (s, .refused .duplicate)
      else ({ s with wsc := { s.wsc with queue := s.wsc.queue ++ [p] } }, .ok (.queued (s.wsc.queue.length + 1))) := by
  simp only [queuePhaseRequest, h, if_neg (accepting_mode hmode),
    if_neg (Nat.not_le.mpr hroom)]

end

theorem exec_queuePhase_eq (r : RawPhase) (s : State) :
    exec (.queuePhase r) s = .next (serveRow 0x20 (queuePhaseRequest r) s) := rfl

/-! ## CANCEL-PHASE (R103) -/

section
variable {id : Nat} {s : State}

theorem cancelPhaseRequest_field (h : id = 0 ∨ 255 < id) : cancelPhaseRequest id s = (s, .refused .field) := by
  simp only [cancelPhaseRequest, if_pos h]

theorem cancelPhaseRequest_state {a : ActivePhase} (hid : 1 ≤ id ∧ id ≤ 255) (ha : s.wsc.active = some a)
    (heq : a.record.id = id) : cancelPhaseRequest id s = (s, .refused .state) := by
  have hrange : ¬(id = 0 ∨ 255 < id) := by omega
  simp only [cancelPhaseRequest, if_neg hrange, ha, heq, decide_true, if_true]

/-- The id of no active phase is looked for in the queue. -/
theorem cancelPhaseRequest_queue (hid : 1 ≤ id ∧ id ≤ 255) (ha : ∀ a, s.wsc.active = some a → a.record.id ≠ id) :
    cancelPhaseRequest id s =
      if s.wsc.queue.any fun r => decide (r.id = id) then
        ({ s with wsc := { s.wsc with queue := s.wsc.queue.filter fun r => decide (r.id ≠ id) } },
          .ok (.queued (s.wsc.queue.filter fun r => decide (r.id ≠ id)).length))
      else (s, .refused .notFound) := by
  have hrange : ¬(id = 0 ∨ 255 < id) := by omega
  cases hactive : s.wsc.active with
  | none => simp [cancelPhaseRequest, hrange, hactive]
  | some a => simp [cancelPhaseRequest, hrange, hactive, ha a hactive]

end

theorem exec_cancelPhase_eq (id : Nat) (s : State) :
    exec (.cancelPhase id) s = .next (serveRow 0x21 (cancelPhaseRequest id) s) := rfl

/-- Only the record with the id leaves, and those around it keep their order. -/
theorem filter_id_ne {front back : List PhaseRecord} {p : PhaseRecord} (h : ∀ q ∈ front ++ back, q.id ≠ p.id) :
    ((front ++ p :: back).filter fun r => decide (r.id ≠ p.id)) = front ++ back := by
  have keep : ∀ l : List PhaseRecord, (∀ q ∈ l, q.id ≠ p.id) → (l.filter fun r => decide (r.id ≠ p.id)) = l :=
    fun l hl => List.filter_eq_self.mpr fun q hq => decide_eq_true (hl q hq)
  rw [List.filter_append, List.filter_cons_of_neg (by simp), ← List.filter_append, keep _ h]

/-! ## The two commands -/

/-- Settles O16: each clause is one answer of the two requests; a record's bytes spell `PhaseRecord.raw`, which passes the check as
the record it came from. -/
theorem phasesAreQueuedAndCancelled : Obligations.PhasesAreQueuedAndCancelled := by
  unfold Obligations.PhasesAreQueuedAndCancelled
  refine ⟨fun r s => ⟨fun hbad => ?_, fun hok => ?_⟩, fun r p hp => ?_, fun id s hid => ?_, fun a s hlo hhi ha => ?_,
    fun id s hlo hhi ha hq => ?_, fun front back p s hlo hhi ha hq hne => ?_⟩
  · rw [exec_queuePhase_eq, serveRow_answer _ _ _ _ (queuePhaseRequest_field (check_eq_none_of_not_allowed hbad))]
  · obtain ⟨k, hk, hp⟩ := exists_check_of_allowed hok
    refine ⟨fun hmode => ?_, fun hmode => ⟨fun hfull => ?_, fun hroom => ⟨fun hused => ?_, fun hfree => ?_⟩⟩⟩
    · rw [exec_queuePhase_eq, serveRow_answer _ _ _ _ (queuePhaseRequest_state hp hmode)]
    · rw [exec_queuePhase_eq, serveRow_answer _ _ _ _ (queuePhaseRequest_full hp hmode hfull)]
    · have hdup := (queuePhaseRequest_room (s := superviseFrame s) hp hmode hroom).trans
        (if_pos ((idUsed_iff (superviseFrame s) r.id).mpr hused))
      rw [exec_queuePhase_eq, serveRow_answer _ _ _ _ hdup]
    · have htaken := (queuePhaseRequest_room (s := superviseFrame s) hp hmode hroom).trans
        (if_neg (mt (idUsed_iff (superviseFrame s) r.id).mp hfree))
      refine ⟨r.record k, ?_, rfl, hk.symm, rfl, rfl, rfl, rfl, rfl, rfl, rfl, rfl, rfl, rfl, rfl, rfl, rfl, rfl, rfl⟩
      rw [exec_queuePhase_eq, serveRow_eq _ _ _ _ _ htaken]
      rfl
  · exact ⟨bytes_length p, p.raw, decodeRequest_bytes (fitsBytes_of_check hp), raw_check_of_check hp⟩
  · rw [exec_cancelPhase_eq, serveRow_answer _ _ _ _ (cancelPhaseRequest_field hid)]
  · rw [exec_cancelPhase_eq, serveRow_answer _ _ _ _ (cancelPhaseRequest_state ⟨hlo, hhi⟩ ha rfl)]
  · have hnone : ¬(s.wsc.queue.any fun r => decide (r.id = id)) = true := by simpa using hq
    have hnotFound := (cancelPhaseRequest_queue (s := superviseFrame s) ⟨hlo, hhi⟩ ha).trans (if_neg hnone)
    rw [exec_cancelPhase_eq, serveRow_answer _ _ _ _ hnotFound]
  · have hfound : (s.wsc.queue.any fun r => decide (r.id = p.id)) = true := by simp [hq]
    have hcancelled := (cancelPhaseRequest_queue (s := superviseFrame s) ⟨hlo, hhi⟩ ha).trans (if_pos hfound)
    rw [exec_cancelPhase_eq, serveRow_eq _ _ _ _ _ hcancelled]
    simp only [superviseFrame, hq, filter_id_ne hne, List.length_append]

end Sys2Proof.Machine

/-! PAUSE and what a hold stops (R118, R119): O18. -/

namespace Sys2Proof.Machine

/-! ## No condition recorded (R175) -/

/-- Between two states no condition was recorded: causes, flags and counts stand, and so does CONDITION attention. -/
abbrev State.conditionsKept (s t : State) : Prop :=
  t.cdu.causes = s.cdu.causes ∧ t.cdu.flags = s.cdu.flags ∧ t.cdu.counts = s.cdu.counts ∧
  t.lkp.sources[Source.condition.idx] = s.lkp.sources[Source.condition.idx]

section
variable {s t u : State} {c : Condition}

theorem conditionsKept_trans (h : s.conditionsKept t) (h' : t.conditionsKept u) : s.conditionsKept u := by
  obtain ⟨hcauses, hflags, hcounts, hsource⟩ := h
  obtain ⟨hcauses', hflags', hcounts', hsource'⟩ := h'
  exact ⟨hcauses'.trans hcauses, hflags'.trans hflags, hcounts'.trans hcounts, hsource'.trans hsource⟩

theorem conditionsKept_of_eq (hcdu : t.cdu = s.cdu) (hlkp : t.lkp = s.lkp) : s.conditionsKept t := by
  simp only [State.conditionsKept, hcdu, hlkp, and_self]

theorem recorded_of_conditionsKept (h : s.conditionsKept t) (h' : t.recorded u c) : s.recorded u c := by
  obtain ⟨hcauses, hflags, hcounts, -⟩ := h
  simpa only [State.recorded, hcauses, hflags, hcounts] using h'

theorem conditionsKept_of_recorded (h : s.recorded t c) (h' : t.conditionsKept u) : s.recorded u c := by
  obtain ⟨hcauses, hflags, hcounts, hsource⟩ := h'
  simpa only [State.recorded, hcauses, hflags, hcounts, hsource] using h

end

theorem putColumn_conditionsKept (c : Column) (r : ColumnRecord) (s : State) : s.conditionsKept (putColumn c r s) := by
  refine ⟨by simp, by simp, by simp, ?_⟩
  unfold putColumn
  split
  · simp
  · rw [setAttention_source_ne _ _ (by decide)]
    simp

theorem takePendingHold_conditionsKept (c : Column) (s : State) : s.conditionsKept (takePendingHold c s) := by
  unfold takePendingHold
  dsimp only
  split
  · exact putColumn_conditionsKept ..
  · exact conditionsKept_of_eq rfl rfl

theorem endFillGrant_conditionsKept (s : State) : s.conditionsKept (endFillGrant s) := by
  have hvalves : s.conditionsKept { s with sfu := { s.sfu with blendValve := false, selector := none } } :=
    conditionsKept_of_eq rfl rfl
  exact conditionsKept_trans (conditionsKept_trans hvalves (takePendingHold_conditionsKept .a _))
    (takePendingHold_conditionsKept .b _)

/-! ## The beginning of a regeneration stage (R50, R51) -/

/-- Only BRINE records a condition at its beginning: SALT_EMPTY, where SALT reads EMPTY. -/
theorem beginBrine_recorded_or_kept (r : RunRecord) (k : Nat) (s : State) :
    s.recorded (beginBrine r k s) .saltEmpty ∨ s.conditionsKept (beginBrine r k s) := by
  have hcolumn := putColumn_conditionsKept r.column { s.col r.column with state := .regenerating, remaining := 0 } s
  unfold beginBrine
  dsimp only
  split
  · exact .inl (recorded_of_conditionsKept hcolumn
      (conditionsKept_of_recorded (recordCondition_recorded ..) (conditionsKept_of_eq (by simp) (by simp))))
  · exact .inr (conditionsKept_trans hcolumn (conditionsKept_of_eq (by simp) (by simp)))

theorem beginStage_recorded_or_kept (st : RegenStage) (s : State) :
    s.recorded (beginStage st s) .saltEmpty ∨ s.conditionsKept (beginStage st s) := by
  unfold beginStage
  split
  · exact .inr (conditionsKept_of_eq rfl rfl)
  · cases st with
    | brine => exact beginBrine_recorded_or_kept ..
    | slowRinse => exact .inr (conditionsKept_of_eq (by simp) (by simp))
    | fastRinse => exact .inr (conditionsKept_of_eq (by simp) (by simp))

/-- A stage that begins leaves the grant and the claims to the inlet as they are. -/
theorem beginStage_claims (st : RegenStage) (s : State) :
    (beginStage st s).wpu.grant = s.wpu.grant ∧ (beginStage st s).wpu.waitFill = s.wpu.waitFill := by
  unfold beginStage
  split
  · exact ⟨rfl, rfl⟩
  · cases st <;> simp

/-! ## The inlet given up (R2, R3) -/

theorem passOnNoFill_recorded_or_kept (s : State) :
    s.recorded (passOnNoFill s) .saltEmpty ∨ s.conditionsKept (passOnNoFill s) := by
  unfold passOnNoFill
  split
  · exact beginStage_recorded_or_kept ..
  · split <;> exact .inr (conditionsKept_of_eq rfl rfl)

theorem passOnNoFill_conditionsKept {s : State} (h : s.wpu.waitRegen = none) : s.conditionsKept (passOnNoFill s) := by
  simp only [passOnNoFill, h]
  split <;> exact conditionsKept_of_eq rfl rfl

theorem passOnNoFill_claims {s : State} (h : s.wpu.grant = none) :
    (passOnNoFill s).wpu.grant ≠ some .fill ∧ (passOnNoFill s).wpu.waitFill = s.wpu.waitFill := by
  unfold passOnNoFill
  split
  · obtain ⟨hgrant, hwait⟩ := beginStage_claims ‹RegenStage› (giveGrant .regen { s with wpu := { s.wpu with waitRegen := none } })
    rw [hgrant, hwait]
    exact ⟨by simp [giveGrant], rfl⟩
  · split <;> simp [giveGrant, h]

/-- A fill that only waits withdraws its claim. -/
theorem dropFill_waiting {s : State} (h : s.wpu.grant ≠ some .fill) :
    dropFill s = { s with wpu := { s.wpu with waitFill := none } } := if_neg h

/-- A fill that holds the grant passes the inlet on. -/
theorem dropFill_granted {s : State} (h : s.wpu.grant = some .fill) :
    dropFill s = passOnNoFill (endFillGrant (freeInlet { s with wpu := { s.wpu with waitFill := none } })) := if_pos h

theorem dropFill_claims (s : State) : (dropFill s).wpu.grant ≠ some .fill ∧ (dropFill s).wpu.waitFill = none := by
  by_cases h : s.wpu.grant = some .fill
  · rw [dropFill_granted h]
    obtain ⟨hgrant, hwait⟩ := passOnNoFill_claims
      (s := endFillGrant (freeInlet { s with wpu := { s.wpu with waitFill := none } })) (by simp [freeInlet])
    exact ⟨hgrant, hwait.trans (by simp [freeInlet])⟩
  · rw [dropFill_waiting h]
    exact ⟨h, rfl⟩

theorem dropFill_conditionsKept {s : State} (h : s.wpu.grant ≠ some .fill ∨ s.wpu.waitRegen = none) :
    s.conditionsKept (dropFill s) := by
  by_cases hg : s.wpu.grant = some .fill
  · rw [dropFill_granted hg]
    have hnone : s.wpu.waitRegen = none := h.resolve_left (not_not_intro hg)
    exact conditionsKept_trans
      (endFillGrant_conditionsKept (freeInlet { s with wpu := { s.wpu with waitFill := none } }))
      (passOnNoFill_conditionsKept (by simpa [freeInlet] using hnone))
  · rw [dropFill_waiting hg]
    exact conditionsKept_of_eq rfl rfl

theorem dropFill_recorded_or_kept (s : State) : s.recorded (dropFill s) .saltEmpty ∨ s.conditionsKept (dropFill s) := by
  by_cases hg : s.wpu.grant = some .fill
  · rw [dropFill_granted hg]
    have hended := endFillGrant_conditionsKept (freeInlet { s with wpu := { s.wpu with waitFill := none } })
    exact (passOnNoFill_recorded_or_kept _).imp (recorded_of_conditionsKept hended) (conditionsKept_trans hended)
  · exact .inr (dropFill_conditionsKept (.inl hg))

/-! ## The heat and the pump stopped (R135, R138) -/

theorem refreshPump_stopped {s : State} (hcirc : s.circRuns = false) (htest : s.pumpTestRuns = false) :
    refreshPump s = { s with hcu := { s.hcu with pumpRuns := false, watch := .none } } := by
  simp [refreshPump, hcirc, htest]

/-- Outside SERVICE a stop leaves no heat, no demand, no move and no classification, and the pump off. -/
theorem stopHeat_hcu {s : State} (h : s.cdu.mode ≠ .service) :
    (stopHeat s).hcu.heat = none ∧ (stopHeat s).hcu.level = 0 ∧ (stopHeat s).hcu.demand = none ∧
    (stopHeat s).hcu.pumpRuns = false ∧ (stopHeat s).hcu.move = none ∧ (stopHeat s).hcu.classify = none := by
  rw [stopHeat, refreshPump_stopped rfl (by simp [State.pumpTestRuns, h])]
  exact ⟨rfl, rfl, rfl, rfl, rfl, rfl⟩

/-! ## What a hold stops in each stage (R118) -/

theorem stopStage_wet {st : Stage} {s : State} (hwet : st.isWet = true) (h : s.cdu.mode ≠ .service) :
    (stopStage st s).hcu.heat = none ∧ (stopStage st s).hcu.level = 0 ∧ (stopStage st s).hcu.demand = none ∧
    (stopStage st s).hcu.pumpRuns = false ∧ (stopStage st s).hcu.move = none ∧ (stopStage st s).hcu.classify = none := by
  cases st with
  | fill => exact stopHeat_hcu (by simpa using h)
  | heat | hold | sense => exact stopHeat_hcu h
  | drain => simpa only [stopStage, stopDrain_frame] using stopHeat_hcu h
  | drying | done => cases hwet

theorem stopStage_heating {st : Stage} (s : State) (h : st = .heat ∨ st = .hold ∨ st = .sense) :
    stopStage st s = stopHeat s := by
  rcases h with rfl | rfl | rfl <;> rfl

/-- Only a FILL's stop reaches beyond its own unit. -/
theorem stopStage_cdu_lkp {st : Stage} (s : State) (h : st ≠ .fill) :
    (stopStage st s).cdu = s.cdu ∧ (stopStage st s).lkp = s.lkp := by
  cases st with
  | fill => exact absurd rfl h
  | heat | hold | sense | drain | drying | done => simp [stopStage]

/-- A FILL's stop stops the heat after the inlet is given up, which the Water Path Unit and the conditions do not see. -/
theorem stopStage_fill (s : State) :
    (stopStage .fill s).wpu = (dropFill s).wpu ∧ (stopStage .fill s).cdu = (dropFill s).cdu ∧
    (stopStage .fill s).lkp = (dropFill s).lkp := by
  simp [stopStage]

theorem suspendDry_live {s : State} {r : DryRun} (hr : s.dyc.run = some r) (hstate : r.state ≠ .ended)
    (hgoes : r.suspended = false) :
    (suspendDry s).dyc.run = some { r with suspended := true, fanDemand := false, humLow := 0 } := by
  simp [suspendDry, editDry, hr, DryRun.live, hstate, hgoes]

/-! ## The hold of a running wash (R118) -/

/-- A wash marked HELD with a cause, before anything is stopped. -/
def State.markedHeld (s : State) (cause : HoldCause) : State :=
  { s with wsc := { s.wsc with wash := .held, cause := some cause } }

theorem holdWash_running {s : State} {a : ActivePhase} (cause : HoldCause) (ha : s.wsc.active = some a)
    (hw : s.wsc.wash = .running) : holdWash cause s = suspendDoses (stopStage a.stage (s.markedHeld cause)) := by
  unfold holdWash
  split
  next hnone => rw [hnone] at ha; cases ha
  next b hb =>
    obtain rfl : b = a := Option.some.inj (hb.symm.trans ha)
    exact if_pos hw

theorem holdWash_not_running {s : State} (cause : HoldCause) (hw : s.wsc.wash ≠ .running) : holdWash cause s = s := by
  unfold holdWash
  split
  · rfl
  · exact if_neg hw

/-! ## PAUSE (R119) -/

theorem pauseRequest_run {s : State} (h : s.cdu.mode = .run) : pauseRequest s = (holdWash .hostPause s, .ok .empty) := if_pos h

theorem pauseRequest_refused {s : State} (h : s.cdu.mode ≠ .run) : pauseRequest s = (s, .refused .state) := if_neg h

theorem exec_pause_eq (s : State) : exec .pause s = .next (serveRow 0x23 pauseRequest s) := rfl

/-- The state in which PAUSE leaves a running wash, before its reply. -/
def State.paused (s : State) (a : ActivePhase) : State :=
  suspendDoses (stopStage a.stage ((superviseFrame s).markedHeld .hostPause))

theorem exec_pause_running {s : State} {a : ActivePhase} (hmode : s.cdu.mode = .run) (hw : s.wsc.wash = .running)
    (ha : s.wsc.active = some a) :
    exec .pause s = .next { s.paused a with lkp := (s.paused a).lkp.answered 0x23 (.ok .empty) } := by
  have hpause : pauseRequest (superviseFrame s) = (s.paused a, .ok .empty) :=
    (pauseRequest_run (s := superviseFrame s) hmode).trans
      (by rw [holdWash_running (s := superviseFrame s) _ ha hw, State.paused])
  rw [exec_pause_eq, serveRow_eq _ _ _ _ _ hpause]

section
variable {s : State} {a : ActivePhase}

theorem paused_wsc : (s.paused a).wsc = { s.wsc with wash := .held, cause := some .hostPause } := by
  simp [State.paused, State.markedHeld, superviseFrame]

theorem paused_dsu :
    (s.paused a).dsu = { s.dsu with live := s.dsu.live.map fun r => { r with state := .suspended } } := by
  simp [State.paused, suspendDoses, writeLive, State.markedHeld, superviseFrame]

/-- What a pause leaves whatever the stage. -/
theorem paused_frame : (s.paused a).cdu.mode = s.cdu.mode ∧ (s.paused a).wpu.fillRec = s.wpu.fillRec ∧
    (s.paused a).wpu.meters = s.wpu.meters := by
  simp [State.paused, State.markedHeld, superviseFrame]

theorem paused_wet (hmode : s.cdu.mode ≠ .service) (h : a.stage.isWet = true) :
    (s.paused a).hcu.heat = none ∧ (s.paused a).hcu.level = 0 ∧ (s.paused a).hcu.demand = none ∧
    (s.paused a).hcu.pumpRuns = false ∧ (s.paused a).hcu.move = none ∧ (s.paused a).hcu.classify = none := by
  simpa only [State.paused, suspendDoses_frame] using
    stopStage_wet (s := (superviseFrame s).markedHeld .hostPause) h hmode

theorem paused_heating (h : a.stage = .heat ∨ a.stage = .hold ∨ a.stage = .sense) :
    (s.paused a).wpu = s.wpu ∧ (s.paused a).sfu = s.sfu ∧ (s.paused a).spt = s.spt := by
  simp [State.paused, stopStage_heating _ h, State.markedHeld, superviseFrame]

theorem paused_drain (h : a.stage = .drain) : (s.paused a).wpu.drain = none ∧ (s.paused a).wpu.drainPump = false := by
  simp [State.paused, h, stopStage, stopDrain]

theorem paused_not_fill (h : a.stage ≠ .fill) : (s.paused a).cdu = s.cdu ∧ (s.paused a).lkp.sources = s.lkp.sources := by
  obtain ⟨hcdu, hlkp⟩ := stopStage_cdu_lkp ((superviseFrame s).markedHeld .hostPause) h
  simp only [State.paused, suspendDoses_frame, hcdu, hlkp]
  exact ⟨rfl, rfl⟩

/-- Of a FILL, a pause leaves to the Water Path Unit and the conditions what giving the inlet up does. -/
theorem paused_fill (h : a.stage = .fill) :
    (s.paused a).wpu = (dropFill ((superviseFrame s).markedHeld .hostPause)).wpu ∧
    (s.paused a).cdu = (dropFill ((superviseFrame s).markedHeld .hostPause)).cdu ∧
    (s.paused a).lkp = (dropFill ((superviseFrame s).markedHeld .hostPause)).lkp := by
  simpa only [State.paused, h, suspendDoses_frame] using stopStage_fill ((superviseFrame s).markedHeld .hostPause)

theorem paused_fill_claims (h : a.stage = .fill) :
    (s.paused a).wpu.grant ≠ some .fill ∧ (s.paused a).wpu.waitFill = none := by
  rw [(paused_fill h).1]
  exact dropFill_claims _

theorem paused_fill_conditions (h : a.stage = .fill) :
    (s.recorded (s.paused a) .saltEmpty ∨ s.conditionsKept (s.paused a)) ∧
    (s.wpu.grant ≠ some .fill ∨ s.wpu.waitRegen = none → s.conditionsKept (s.paused a)) := by
  obtain ⟨-, hcdu, hlkp⟩ := paused_fill (s := s) h
  simp only [State.recorded, State.conditionsKept, hcdu, hlkp]
  exact ⟨dropFill_recorded_or_kept ((superviseFrame s).markedHeld .hostPause),
    dropFill_conditionsKept (s := (superviseFrame s).markedHeld .hostPause)⟩

theorem paused_drying {r : DryRun} (h : a.stage = .drying) (hr : s.dyc.run = some r) (hstate : r.state ≠ .ended)
    (hgoes : r.suspended = false) :
    (s.paused a).dyc.run = some { r with suspended := true, fanDemand := false, humLow := 0 } := by
  simpa only [State.paused, h, stopStage, suspendDoses_frame] using
    suspendDry_live (s := (superviseFrame s).markedHeld .hostPause) hr hstate hgoes

end

/-- Settles O18: the hold is `stopStage` between the mark of the wash and the suspension of the doses, so each clause is what that
stop does in its stage. -/
theorem pauseHoldsTheWash : Obligations.PauseHoldsTheWash := by
  unfold Obligations.PauseHoldsTheWash
  refine ⟨fun a s hmode hw ha => ⟨_, exec_pause_running hmode hw ha, rfl, ?_⟩, fun s hmode hw => ?_, fun s hmode => ?_⟩
  · have hnotService : s.cdu.mode ≠ .service := by simp [hmode]
    obtain ⟨hkeptMode, hfillRec, hmeters⟩ := paused_frame (s := s) (a := a)
    refine ⟨by rw [paused_wsc], by rw [paused_wsc], by rw [paused_wsc, ha], by rw [paused_wsc], by rw [paused_wsc],
      hkeptMode.trans hmode, hfillRec, hmeters, by rw [paused_dsu], by rw [paused_dsu], fun hwet => ?_,
      fun hfill => paused_fill_claims hfill, fun hheat => ?_, fun hdrain => paused_drain hdrain,
      fun hfill => paused_not_fill hfill, fun hfill hgives => (paused_fill_conditions hfill).2 hgives,
      fun hfill _ _ => (paused_fill_conditions hfill).1,
      fun hdry r hr hstate hgoes => ⟨_, paused_drying hdry hr hstate hgoes, rfl, rfl, rfl, rfl⟩⟩
    · obtain ⟨hoff, hlevel, hdemand, hpump, hmove, -⟩ := paused_wet hnotService hwet
      exact ⟨hoff, hlevel, hdemand, hpump, hmove⟩
    · have hwet : a.stage.isWet = true := by rcases hheat with h | h | h <;> rw [h] <;> rfl
      obtain ⟨hwpu, hsfu, hspt⟩ := paused_heating (s := s) hheat
      obtain ⟨-, -, -, -, -, hclassify⟩ := paused_wet hnotService hwet
      exact ⟨hwpu, hsfu, hspt, hclassify⟩
  · have hpause : pauseRequest (superviseFrame s) = (superviseFrame s, .ok .empty) :=
      (pauseRequest_run (s := superviseFrame s) hmode).trans
        (by rw [holdWash_not_running (s := superviseFrame s) _ (by simp [superviseFrame, hw])])
    rw [exec_pause_eq, serveRow_answer _ _ _ _ hpause]
  · rw [exec_pause_eq, serveRow_answer _ _ _ _ (pauseRequest_refused (s := superviseFrame s) hmode)]

end Sys2Proof.Machine
